-- ==== Sys2Proof/Word.lean ====
section
/-! DEFINITION. Widths of MGC-I2C (00_scope.md R10): register words and buffer addresses of 32 bits,
units of 8 bits, bus addresses of 7 bits. -/

namespace Sys2Proof

/-- A register word, a buffer address or a length (`REG_W` = `PTR_W` = `LEN_W` = 32, R10). -/
abbrev Word := BitVec 32

/-- One unit (`UNIT_W` = 8, R10). -/
abbrev Byte := BitVec 8

/-- A bus address (`ADDR7_W` = 7, R10). -/
abbrev Addr7 := BitVec 7

/-- The byte offset of a register inside the 256-byte window (20_memory.md R70). -/
abbrev Offset := BitVec 8

end Sys2Proof
end

