-- ==== Sys2Proof/Syntax.lean ====
section
/-! DEFINITION. The 24 operations of MGC-I2C, one constructor per row of the opcode map
(30_encoding.md R109). The buffer address and the length of the transfer operations are not in the
word: they are `OP_BUF` and `OP_LEN` (R101). Field widths are carried by the types, so every term of
`Instr` fits its format. -/

namespace Sys2Proof

inductive Instr where
  /-- `P_CLK_EN`, format F0, 40_primitives.md R130. -/
  | pClkEn
  /-- `P_CLK_DIS`, format F0, R131. -/
  | pClkDis
  /-- `P_PE_EN`, format F0, R132. -/
  | pPeEn
  /-- `P_PE_DIS`, format F0, R133. -/
  | pPeDis
  /-- `P_ACK_EN`, format F0, R134. -/
  | pAckEn
  /-- `P_ACK_DIS`, format F0, R135. -/
  | pAckDis
  /-- `P_START_REQ`, format F0, R136. -/
  | pStartReq
  /-- `P_STOP_REQ`, format F0, R137. -/
  | pStopReq
  /-- `P_ADDR_W`, format FA, R138. -/
  | pAddrW (a : Addr7)
  /-- `P_ADDR_R`, format FA, R139. -/
  | pAddrR (a : Addr7)
  /-- `P_READ_UNIT`, format F0, R140. -/
  | pReadUnit
  /-- `P_WRITE_UNIT`, format FD, R141. -/
  | pWriteUnit (d : Byte)
  /-- `P_CLEAR_ADDR`, format F0, R142. -/
  | pClearAddr
  /-- `P_CLEAR_STOPF`, format F0, R143. -/
  | pClearStopf
  /-- `INIT`, format FI, 45_slave_and_system.md R270. -/
  | init (own : Addr7) (fs duty ackp : Bool)
  /-- `SET_CB`, format FC, R272. -/
  | setCb (en : Bool)
  /-- `MSEND`, format FT, 42_blocking_engine.md R202. -/
  | msend (a : Addr7) (rs : Bool)
  /-- `MRECV`, format FT, R204. -/
  | mrecv (a : Addr7) (rs : Bool)
  /-- `MSEND_A`, format FT, 43_async_engine.md R221. -/
  | msendA (a : Addr7) (rs : Bool)
  /-- `MRECV_A`, format FT, R222. -/
  | mrecvA (a : Addr7) (rs : Bool)
  /-- `SRECV`, format F0, 45_slave_and_system.md R274. -/
  | srecv
  /-- `SSEND`, format FD, R275. -/
  | ssend (d : Byte)
  /-- `EVDISP`, format F0, 44_dispatcher.md R241. -/
  | evdisp
  /-- `ERDISP`, format F0, R257. -/
  | erdisp
  deriving DecidableEq, Repr, Inhabited

end Sys2Proof
end

