-- ==== Sys2Proof/WellFormed.lean ====
section
/-! DEFINITION. Well-formed program lines (30_encoding.md R115). A term of `Instr` is well formed by
its types; what can be ill formed is a program line, which also names the buffer and the length of a
transfer. -/

namespace Sys2Proof

/-- The four transfer operations, which take `buf` and `len` (R106, R115). -/
def Instr.isTransfer : Instr → Bool
  | .msend _ _ | .mrecv _ _ | .msendA _ _ | .mrecvA _ _ => true
  | .pClkEn | .pClkDis | .pPeEn | .pPeDis | .pAckEn | .pAckDis | .pStartReq | .pStopReq
  | .pAddrW _ | .pAddrR _ | .pReadUnit | .pWriteUnit _ | .pClearAddr | .pClearStopf
  | .init _ _ _ _ | .setCb _ | .srecv | .ssend _ | .evdisp | .erdisp => false

/-- One line of a program (R115): an operation and, for a transfer, its `buf=` and `len=` operands. -/
structure ProgLine where
  instr : Instr
  buf : Option Word
  len : Option Word
  deriving DecidableEq, Repr

/-- A transfer line names a buffer; another line names none (R115). -/
def ProgLine.bufOk (l : ProgLine) : Bool := l.buf.isSome == l.instr.isTransfer

/-- A transfer line names a length; another line names none (R115). -/
def ProgLine.lenOk (l : ProgLine) : Bool := l.len.isSome == l.instr.isTransfer

/-- The length of a transfer is at least 1 (R113). -/
def ProgLine.lenNonzero (l : ProgLine) : Bool := l.len != some 0

/-- The well-formed lines. -/
def ProgLine.wf (l : ProgLine) : Bool := l.bufOk && l.lenOk && l.lenNonzero

end Sys2Proof
end

