-- ==== Sys2Proof/Decode.lean ====
section
/-! DEFINITION. Decoder and encoder of command words (30_encoding.md R101 to R109, R111). -/

namespace Sys2Proof

/-- Why a word encodes no operation (R111). -/
inductive DecodeError where
  /-- The opcode is 0x00, 0x0F or 0x1A to 0xFF. -/
  | reservedOpcode
  /-- The opcode is assigned and a bit that its format does not assign is 1. -/
  | reservedBits
  deriving DecidableEq, Repr

/-! The operand fields of the six formats (R101). -/

/-- `OPC` = bits 7:0. -/
def fieldOpc (w : Word) : Byte := w.extractLsb' 0 8
/-- `A7` and `OWN7` = bits 14:8 (R103, R106, R107). -/
def fieldA7 (w : Word) : Addr7 := w.extractLsb' 8 7
/-- `D8` = bits 15:8 (R104). -/
def fieldD8 (w : Word) : Byte := w.extractLsb' 8 8
/-- `EN` = bit 8 (R108). -/
def fieldEn (w : Word) : Bool := w.getLsbD 8
/-- `RSF` of format FT and `FS` of format FI = bit 16 (R106, R107). -/
def fieldB16 (w : Word) : Bool := w.getLsbD 16
/-- `DUTY` = bit 17 (R107). -/
def fieldB17 (w : Word) : Bool := w.getLsbD 17
/-- `ACKP` = bit 18 (R107). -/
def fieldB18 (w : Word) : Bool := w.getLsbD 18

/-! The masks of the six formats (R102 to R104, R106 to R108). -/

def maskF0 : Word := 0xFFFFFFFF
def maskFA : Word := 0xFFFF80FF
def maskFD : Word := 0xFFFF00FF
def maskFT : Word := 0xFFFE80FF
def maskFI : Word := 0xFFF880FF
def maskFC : Word := 0xFFFFFEFF

/-- The instruction `i` if `w` has only bits that the format of `mask` assigns besides the opcode
`mtch` (R109: `(w AND mask) = match`), else the word is reserved (R111). -/
def accept (mask mtch w : Word) (i : Instr) : Except DecodeError Instr :=
  if w &&& mask = mtch then .ok i else .error .reservedBits

/-- The opcode map (R109) read as a decoder, total on all words. -/
def decode (w : Word) : Except DecodeError Instr :=
  match (fieldOpc w).toNat with
  | 0x01 => accept maskF0 0x01 w .pClkEn
  | 0x02 => accept maskF0 0x02 w .pClkDis
  | 0x03 => accept maskF0 0x03 w .pPeEn
  | 0x04 => accept maskF0 0x04 w .pPeDis
  | 0x05 => accept maskF0 0x05 w .pAckEn
  | 0x06 => accept maskF0 0x06 w .pAckDis
  | 0x07 => accept maskF0 0x07 w .pStartReq
  | 0x08 => accept maskF0 0x08 w .pStopReq
  | 0x09 => accept maskFA 0x09 w (.pAddrW (fieldA7 w))
  | 0x0A => accept maskFA 0x0A w (.pAddrR (fieldA7 w))
  | 0x0B => accept maskF0 0x0B w .pReadUnit
  | 0x0C => accept maskFD 0x0C w (.pWriteUnit (fieldD8 w))
  | 0x0D => accept maskF0 0x0D w .pClearAddr
  | 0x0E => accept maskF0 0x0E w .pClearStopf
  | 0x10 => accept maskFI 0x10 w (.init (fieldA7 w) (fieldB16 w) (fieldB17 w) (fieldB18 w))
  | 0x11 => accept maskFC 0x11 w (.setCb (fieldEn w))
  | 0x12 => accept maskFT 0x12 w (.msend (fieldA7 w) (fieldB16 w))
  | 0x13 => accept maskFT 0x13 w (.mrecv (fieldA7 w) (fieldB16 w))
  | 0x14 => accept maskFT 0x14 w (.msendA (fieldA7 w) (fieldB16 w))
  | 0x15 => accept maskFT 0x15 w (.mrecvA (fieldA7 w) (fieldB16 w))
  | 0x16 => accept maskF0 0x16 w .srecv
  | 0x17 => accept maskFD 0x17 w (.ssend (fieldD8 w))
  | 0x18 => accept maskF0 0x18 w .evdisp
  | 0x19 => accept maskF0 0x19 w .erdisp
  | _ => .error .reservedOpcode

/-! The encoder: the six formats of R101, high bits first. -/

/-- Format F0 (R102). -/
def encF0 (opc : Byte) : Word := (0#24 ++ opc : BitVec (24 + 8))
/-- Format FA (R103). -/
def encFA (a : Addr7) (opc : Byte) : Word := (0#17 ++ a ++ opc : BitVec (17 + 7 + 8))
/-- Format FD (R104). -/
def encFD (d : Byte) (opc : Byte) : Word := (0#16 ++ d ++ opc : BitVec (16 + 8 + 8))
/-- Format FT (R106). -/
def encFT (a : Addr7) (rs : Bool) (opc : Byte) : Word :=
  (0#15 ++ BitVec.ofBool rs ++ 0#1 ++ a ++ opc : BitVec (15 + 1 + 1 + 7 + 8))
/-- Format FI (R107). -/
def encFI (own : Addr7) (fs duty ackp : Bool) (opc : Byte) : Word :=
  (0#13 ++ BitVec.ofBool ackp ++ BitVec.ofBool duty ++ BitVec.ofBool fs ++ 0#1 ++ own ++ opc :
    BitVec (13 + 1 + 1 + 1 + 1 + 7 + 8))
/-- Format FC (R108). -/
def encFC (en : Bool) (opc : Byte) : Word :=
  (0#23 ++ BitVec.ofBool en ++ opc : BitVec (23 + 1 + 8))

/-- The command word of an operation (R101 to R109). -/
def encode : Instr → Word
  | .pClkEn => encF0 0x01
  | .pClkDis => encF0 0x02
  | .pPeEn => encF0 0x03
  | .pPeDis => encF0 0x04
  | .pAckEn => encF0 0x05
  | .pAckDis => encF0 0x06
  | .pStartReq => encF0 0x07
  | .pStopReq => encF0 0x08
  | .pAddrW a => encFA a 0x09
  | .pAddrR a => encFA a 0x0A
  | .pReadUnit => encF0 0x0B
  | .pWriteUnit d => encFD d 0x0C
  | .pClearAddr => encF0 0x0D
  | .pClearStopf => encF0 0x0E
  | .init own fs duty ackp => encFI own fs duty ackp 0x10
  | .setCb en => encFC en 0x11
  | .msend a rs => encFT a rs 0x12
  | .mrecv a rs => encFT a rs 0x13
  | .msendA a rs => encFT a rs 0x14
  | .mrecvA a rs => encFT a rs 0x15
  | .srecv => encF0 0x16
  | .ssend d => encFD d 0x17
  | .evdisp => encF0 0x18
  | .erdisp => encF0 0x19

/-- A row of the opcode map (R109): a word `w` encodes its operation iff `w AND mask = match`. -/
structure OpcodeRow where
  mask : Word
  mtch : Word
  deriving DecidableEq, Repr

/-- The row's condition on a word (R109). -/
def OpcodeRow.matchesWord (r : OpcodeRow) (w : Word) : Bool := w &&& r.mask == r.mtch

/-- The 24 rows of the opcode map, in its order (R109). -/
def opcodeMap : List OpcodeRow :=
  [⟨0xFFFFFFFF, 0x01⟩, ⟨0xFFFFFFFF, 0x02⟩, ⟨0xFFFFFFFF, 0x03⟩, ⟨0xFFFFFFFF, 0x04⟩,
   ⟨0xFFFFFFFF, 0x05⟩, ⟨0xFFFFFFFF, 0x06⟩, ⟨0xFFFFFFFF, 0x07⟩, ⟨0xFFFFFFFF, 0x08⟩,
   ⟨0xFFFF80FF, 0x09⟩, ⟨0xFFFF80FF, 0x0A⟩, ⟨0xFFFFFFFF, 0x0B⟩, ⟨0xFFFF00FF, 0x0C⟩,
   ⟨0xFFFFFFFF, 0x0D⟩, ⟨0xFFFFFFFF, 0x0E⟩, ⟨0xFFF880FF, 0x10⟩, ⟨0xFFFFFEFF, 0x11⟩,
   ⟨0xFFFE80FF, 0x12⟩, ⟨0xFFFE80FF, 0x13⟩, ⟨0xFFFE80FF, 0x14⟩, ⟨0xFFFE80FF, 0x15⟩,
   ⟨0xFFFFFFFF, 0x16⟩, ⟨0xFFFF00FF, 0x17⟩, ⟨0xFFFFFFFF, 0x18⟩, ⟨0xFFFFFFFF, 0x19⟩]

/-- The row of an operation (R109). -/
def Instr.row : Instr → OpcodeRow
  | .pClkEn => ⟨0xFFFFFFFF, 0x01⟩
  | .pClkDis => ⟨0xFFFFFFFF, 0x02⟩
  | .pPeEn => ⟨0xFFFFFFFF, 0x03⟩
  | .pPeDis => ⟨0xFFFFFFFF, 0x04⟩
  | .pAckEn => ⟨0xFFFFFFFF, 0x05⟩
  | .pAckDis => ⟨0xFFFFFFFF, 0x06⟩
  | .pStartReq => ⟨0xFFFFFFFF, 0x07⟩
  | .pStopReq => ⟨0xFFFFFFFF, 0x08⟩
  | .pAddrW _ => ⟨0xFFFF80FF, 0x09⟩
  | .pAddrR _ => ⟨0xFFFF80FF, 0x0A⟩
  | .pReadUnit => ⟨0xFFFFFFFF, 0x0B⟩
  | .pWriteUnit _ => ⟨0xFFFF00FF, 0x0C⟩
  | .pClearAddr => ⟨0xFFFFFFFF, 0x0D⟩
  | .pClearStopf => ⟨0xFFFFFFFF, 0x0E⟩
  | .init _ _ _ _ => ⟨0xFFF880FF, 0x10⟩
  | .setCb _ => ⟨0xFFFFFEFF, 0x11⟩
  | .msend _ _ => ⟨0xFFFE80FF, 0x12⟩
  | .mrecv _ _ => ⟨0xFFFE80FF, 0x13⟩
  | .msendA _ _ => ⟨0xFFFE80FF, 0x14⟩
  | .mrecvA _ _ => ⟨0xFFFE80FF, 0x15⟩
  | .srecv => ⟨0xFFFFFFFF, 0x16⟩
  | .ssend _ => ⟨0xFFFF00FF, 0x17⟩
  | .evdisp => ⟨0xFFFFFFFF, 0x18⟩
  | .erdisp => ⟨0xFFFFFFFF, 0x19⟩

/-- The register-port writes that a program line stands for, as offset and word (R115): a transfer
line writes `OP_BUF`, `OP_LEN` and `CMD`, any other line writes `CMD`. -/
def ProgLine.portWrites (l : ProgLine) : List (Offset × Word) :=
  (l.buf.map fun b => ((0x30 : Offset), b)).toList ++
  (l.len.map fun n => ((0x34 : Offset), n)).toList ++ [(0x38, encode l.instr)]

/-- The command word that the table's numbering gives for `w` of `nbits` bits. A command word is one
32-bit access and has no byte order (20_memory.md R78 e). -/
def tableWord (nbits w : Nat) : Word := BitVec.ofNat 32 (w % 2 ^ nbits)

/-- What the decoder reads from an instruction whose bits are `w`. -/
def decodeTableWord (nbits w : Nat) : Option Instr :=
  match decode (tableWord nbits w) with
  | .ok i => some i
  | .error _ => none

end Sys2Proof
end

