-- ==== Sys2Proof/Machine/Moves.lean ====
section
/-! DEFINITION. The moves of the agents HOST, SEQ, BC, ENV and of the interrupt plumbing (00_scope.md R4,
60_exceptions.md R299): one move is one step of the total order of 20_memory.md R85. -/

namespace Sys2Proof.Machine

/-- The answer in an acknowledge bit: `ACK` = 1, `NACK` = 0 (00_scope.md R11). -/
inductive Ack where
  | nack
  | ack
  deriving DecidableEq, Repr, Inhabited

/-- The five error flags of `SR1` in the order of the error dispatcher (44_dispatcher.md R258). -/
inductive ErrFlag where
  | berr
  | arlo
  | af
  | ovr
  | timeout
  deriving DecidableEq, Repr, Inhabited

/-- The wire events (41_wire_engine.md R162) with the outside input that ENV supplies. -/
inductive WireEvent where
  /-- `W_START`, R164. -/
  | start
  /-- `W_STOP`, R166 and R167. -/
  | stop
  /-- `W_ADDR_RESULT(a)`, R168. -/
  | addrResult (a : Ack)
  /-- `W_TX_BYTE(a)`, R170. -/
  | txByte (a : Ack)
  /-- `W_RX_BYTE(b)`, R172. -/
  | rxByte (b : Byte)
  /-- `W_E_ADDRESS(a7, rw)`, R176; `rw` true is the read direction. -/
  | eAddress (a7 : Addr7) (rw : Bool)
  /-- `W_E_STOP`, R178. -/
  | eStop
  /-- `W_ARLO`, R182. -/
  | arlo
  /-- `W_ERR(f)`, R184. -/
  | err (f : ErrFlag)
  deriving DecidableEq, Repr, Inhabited

/-- The width of a register-port access: the one width of the port, or another (20_memory.md R81). -/
inductive PortWidth where
  | word
  | other
  deriving DecidableEq, Repr, Inhabited

/-- What HOST does. -/
inductive HostAct where
  /-- A register-port read of the byte offset `off` (20_memory.md R74). -/
  | portRead (width : PortWidth) (off : Offset)
  /-- A register-port write of `w` at the byte offset `off` (R74). -/
  | portWrite (width : PortWidth) (off : Offset) (w : Word)
  /-- `cb_done`: the callback returns (60_exceptions.md R297). -/
  | cbDone
  /-- HOST writes a unit of its own buffer memory (20_memory.md R71). -/
  | memStore (a : Word) (v : Byte)
  deriving DecidableEq, Repr, Inhabited

/-- The two dispatch inputs (10_state.md R57). -/
inductive IrqLine where
  | ev
  | er
  deriving DecidableEq, Repr, Inhabited

/-- One move of one agent. -/
inductive Move where
  | host (a : HostAct)
  /-- SEQ takes its next micro-operation (20_memory.md R83). -/
  | seq
  /-- BC or ENV takes a wire event (41_wire_engine.md R162). -/
  | wire (e : WireEvent)
  /-- The plumbing pulses `ev_dispatch` or `er_dispatch` (60_exceptions.md R299). -/
  | pulse (l : IrqLine)
  /-- Power-up or the `rst_n` port (70_reset_and_hazards.md R320, R321). -/
  | reset
  deriving DecidableEq, Repr, Inhabited

end Sys2Proof.Machine
end

