-- ==== Sys2Proof/Config.lean ====
section
/-! DEFINITION. The open parameters of 00_scope.md R10, as constants without a body. -/

namespace Sys2Proof

/-- FREE VALUE (log 1): which agent moves next, and with which outside input, where the state's own
`schedule` says nothing more. It stands for the open parameters `Env`, `handler`, `IRQ_POLICY`,
`IRQ_DELIVERY` and for the interleaving of 20_memory.md R85. -/
opaque Config.freeMove : Nat → Machine.Move

/-- `NBUS` less one (R10: `NBUS` >= 1); read by no rule of one instance (log 17). -/
opaque Config.extraBuses : Nat

/-- `NBUS`, the number of bus instances (R10, 60_exceptions.md R309). -/
def Config.nbus : Nat := Config.extraBuses + 1

/-- `T_TIMEOUT` (R10); appears in no rule (log 17). -/
opaque Config.tTimeout : Nat

/-- `F_SCL` (R10), by clock-speed class `CFG.FS`; appears in no rule (log 17). -/
opaque Config.fScl : Bool → Nat

/-- The input `scl_div` (10_state.md R57), timing only; appears in no rule (log 17). -/
opaque Config.sclDiv : Nat

end Sys2Proof
end

