-- ==== Sys2Proof/Machine/State.lean ====
section
/-! DEFINITION. The state of one bus instance (10_state.md R20), the reasons of a stop, and the state
after reset (R55). -/

namespace Sys2Proof.Machine

/-- `ROLE` (10_state.md R21); the value 3 is written by no rule and left out. -/
inductive Role where
  | ready
  | busyRx
  | busyTx
  deriving DecidableEq, Repr

/-- `PHASE` (10_state.md R52). -/
inductive Phase where
  | idle
  | mSb
  | mAddr
  | mTx
  | mRx
  | mHalt
  | sRx
  | sTx
  | sEnd
  | bOther
  deriving DecidableEq, Repr

/-- `SEQ_MODE` (10_state.md R44): `S_IDLE`, `S_BLK`, `S_EV`, `S_ER`. -/
inductive SeqMode where
  | idle
  | blk
  | ev
  | er
  deriving DecidableEq, Repr

/-- `BOP` (10_state.md R44). -/
inductive BlockOp where
  | msend
  | mrecv
  deriving DecidableEq, Repr

/-- The labels of `BPC` (10_state.md R46): T0 to T8 of 42_blocking_engine.md R202, V0 to V13 of R204. -/
inductive BStep where
  | t0 | t1 | t2 | t3 | t4 | t5 | t6 | t7 | t8
  | v0 | v1 | v2 | v3 | v4 | v5 | v6 | v7 | v8 | v9 | v10 | v11
  /-- V12: the test of `W_LEN = 2` and, if it holds, the action V12.1 (log 11). -/
  | v12
  /-- V12.2. -/
  | v12b
  | v13
  deriving DecidableEq, Repr

/-- The sub-steps of a check of the error dispatcher (44_dispatcher.md R258). -/
inductive ErrSub where
  | check
  | clear
  | call
  deriving DecidableEq, Repr

/-- The positions of `DPC` (10_state.md R46): the checks E0 to E5 with their actions
(44_dispatcher.md R248 to R256), X0 to X4 with theirs (R258), and the exit (R241, R257). -/
inductive DStep where
  | e0 | e0a
  | e1 | e1a
  | e2 | e2s1 | e2s2 | e2s3
  | e3 | e3s1 | e3s2
  /-- E4: the guards of R253 and R254. -/
  | e4
  | e4s1 | e4s2
  /-- E4.3 to E4.5, reached only if E4.2 brought `REMAIN` to 0 (R253; log 11). -/
  | e4s3 | e4s4 | e4s5
  /-- The action of the slave branch of E4 (R254). -/
  | e4slave
  /-- E5: the guards of R255 and R256. -/
  | e5
  | e5master
  | e5slave
  | err (f : ErrFlag) (sub : ErrSub)
  | exit
  deriving DecidableEq, Repr

/-- The ten events of the application callback (30_encoding.md R110). -/
inductive Event where
  | masterTxComplete
  | masterRxComplete
  | slaveStopDetected
  | errBus
  | errArbitrationLost
  | errAckFailure
  | errOverrun
  | errTimeout
  | slaveDataRequested
  | slaveReadRequest
  deriving DecidableEq, Repr

/-- The name and operands in a record `PRIM(name, operands)` (10_state.md R50). -/
inductive Prim where
  | clkEn | clkDis | peEn | peDis | ackEn | ackDis | startReq | stopReq
  | addrW (a : Addr7)
  | addrR (a : Addr7)
  | readUnit
  | writeUnit (d : Byte)
  | clearAddr
  | clearStopf
  deriving DecidableEq, Repr

/-- The four transfer operations, as named in a record `OP`. -/
inductive Transfer where
  | msend | mrecv | msendA | mrecvA
  deriving DecidableEq, Repr

/-- The name and operands in a record `OP(name, operands)` (10_state.md R50). -/
inductive OpRec where
  | init (own : Addr7) (fs duty ackp : Bool)
  | setCb (en : Bool)
  | transfer (t : Transfer) (buf len : Word) (a : Addr7) (rs : Bool)
  | srecv
  | ssend (d : Byte)
  | evdisp
  | erdisp
  /-- `OP(ILLEGAL, w)` (30_encoding.md R112). -/
  | illegal (w : Word)
  deriving DecidableEq, Repr

/-- The kinds of a record `WIRE(kind, ...)` (10_state.md R50). -/
inductive WireRec where
  | start
  | rstart
  | stop
  | addrByte (byte : Byte) (a : Ack)
  | txByte (unit : Byte) (a : Ack)
  | rxByte (unit : Byte) (a : Ack)
  | eAddr (a7 : Addr7) (rw answered : Bool)
  | eStop
  | arlo
  | err (f : ErrFlag)
  deriving DecidableEq, Repr

/-- A record of `TRACE` (10_state.md R50). -/
inductive Rec where
  | op (o : OpRec)
  | prim (p : Prim)
  | drr (v : Byte)
  | drw (v : Byte)
  | memr (a : Word) (v : Byte)
  | memw (a : Word) (v : Byte)
  | close
  | cb (e : Event)
  | clr (f : ErrFlag)
  | wire (k : WireRec)
  deriving DecidableEq, Repr

/-- The state of one bus instance, with its buffer memory, its output ports and the moves of the
agents still to come. -/
structure State where
  /-- `ROLE`, R21. -/
  role : Role
  /-- `CURSOR`, R22. -/
  cursor : Word
  /-- `REMAIN`, R23. -/
  remain : Word
  /-- `TADDR`, R24. -/
  taddr : Addr7
  /-- `RS`, R25. -/
  rs : Bool
  /-- `CFG.FS`, R32. -/
  fs : Bool
  /-- `CFG.DUTY`, R32. -/
  duty : Bool
  /-- `OAR.ADD`, R31. -/
  own : Addr7
  /-- `CTRL.PE`, R29. -/
  pe : Bool
  /-- `CTRL.START`, R29. -/
  start : Bool
  /-- `CTRL.STOP`, R29. -/
  stop : Bool
  /-- `CTRL.ACK`, R29. -/
  ack : Bool
  /-- `CLKEN`, R48. -/
  clken : Bool
  /-- `IEN.ITERREN`, R30. -/
  iterren : Bool
  /-- `IEN.ITEVTEN`, R30. -/
  itevten : Bool
  /-- `IEN.ITBUFEN`, R30. -/
  itbufen : Bool
  /-- `DR`, R33. -/
  dr : Byte
  /-- `SR1.SB`, R36. -/
  sb : Bool
  /-- `SR1.ADDR`, R37. -/
  addr : Bool
  /-- `SR1.BTF`, R38. -/
  btf : Bool
  /-- `SR1.STOPF`, R39. -/
  stopf : Bool
  /-- `SR1.RXNE`, R40. -/
  rxne : Bool
  /-- `SR1.TXE`, R41. -/
  txe : Bool
  /-- `SR1.BERR`, R42. -/
  berr : Bool
  /-- `SR1.ARLO`, R42. -/
  arlo : Bool
  /-- `SR1.AF`, R42. -/
  af : Bool
  /-- `SR1.OVR`, R42. -/
  ovr : Bool
  /-- `SR1.TIMEOUT`, R42. -/
  timeout : Bool
  /-- `SR2.MSL`, R43. -/
  msl : Bool
  /-- `SR2.BUSY`, R43. -/
  busy : Bool
  /-- `SR2.TRA`, R43. -/
  tra : Bool
  /-- `SHIFT`, R51. -/
  shift : Byte
  /-- `SH_TX`, R51. -/
  shTx : Bool
  /-- `SH_RX`, R51. -/
  shRx : Bool
  /-- `PHASE`, R52. -/
  phase : Phase
  /-- `NACKED`, R53. -/
  nacked : Bool
  /-- `ADDR_RD`, R37. -/
  addrRd : Bool
  /-- `SEQ_MODE`, R44. -/
  seqMode : SeqMode
  /-- `CBW`, R44. -/
  cbw : Bool
  /-- `BOP`, R44. -/
  bop : BlockOp
  /-- `BPC`, R46. -/
  bpc : BStep
  /-- `DPC`, R46. -/
  dpc : DStep
  /-- `W_CUR`, R45. -/
  wCur : Word
  /-- `W_LEN`, R45. -/
  wLen : Word
  /-- `W_ADDR`, R45. -/
  wAddr : Addr7
  /-- `W_RS`, R45. -/
  wRs : Bool
  /-- The MODEL's own field, no element of R20 (log 22): since the address phase of the last blocking operation a NACK or a
  lost arbitration ended this master's transfer, so that the operation spins for ever (42_blocking_engine.md R202, R205). -/
  wFailed : Bool
  /-- `CB_EN`, R49. -/
  cbEn : Bool
  /-- `OP_BUF`, R47. -/
  opBuf : Word
  /-- `OP_LEN`, R47. -/
  opLen : Word
  /-- `CMD`, R47: the last word written; write-only, read by no rule (log 9). -/
  cmd : Word
  /-- `RESULT.VAL`, R47. -/
  resVal : Byte
  /-- `RESULT.ST`, R47. -/
  resSt : BitVec 2
  /-- `TRACE`, R50, oldest record first. -/
  trace : List Rec
  /-- `reg_rdata`, R57: the word the last register-port read returned (log 9). -/
  rdata : Word
  /-- `cb_valid`, R57. -/
  cbValid : Bool
  /-- `cb_code`, R57. -/
  cbCode : BitVec 4
  /-- The buffer memory `Mem` (20_memory.md R71), in the canonical form of `Memory.wf`. -/
  mem : List Host.Cell
  /-- The MODEL's own field (log 1): the moves of the agents to come, next first. -/
  schedule : List Move
  /-- The MODEL's own field (log 1): the argument of the next free move. -/
  tick : Nat
  deriving DecidableEq, Repr

/-- The block has no fault mechanism (60_exceptions.md R285): nothing raises a fault. -/
inductive Fault where
  deriving DecidableEq, Repr

/-- The reasons of a refusal. -/
inductive Refusal where
  /-- Raised by an arm of `exec` for an operation that has no meaning yet; no arm raises it now. Safe:
  the machine stops where the hardware goes on. -/
  | notModelled (mnemonic : String)
  deriving DecidableEq, Repr

/-- The state after reset (R55; BOP and the output ports: log 9; memory: log 7; schedule, tick: log 1). -/
def State.reset : State where
  role := .ready
  cursor := 0
  remain := 0
  taddr := 0
  rs := false
  fs := false
  duty := false
  own := 0
  pe := false
  start := false
  stop := false
  ack := false
  clken := false
  iterren := false
  itevten := false
  itbufen := false
  dr := 0
  sb := false
  addr := false
  btf := false
  stopf := false
  rxne := false
  txe := false
  berr := false
  arlo := false
  af := false
  ovr := false
  timeout := false
  msl := false
  busy := false
  tra := false
  shift := 0
  shTx := false
  shRx := false
  phase := .idle
  nacked := false
  addrRd := false
  seqMode := .idle
  cbw := false
  bop := .msend
  bpc := .t0
  dpc := .e0
  wCur := 0
  wLen := 0
  wAddr := 0
  wRs := false
  wFailed := false
  cbEn := false
  opBuf := 0
  opLen := 0
  cmd := 0
  resVal := 0
  resSt := 0
  trace := []
  rdata := 0
  cbValid := false
  cbCode := 0
  mem := []
  schedule := []
  tick := 0

end Sys2Proof.Machine
end

