-- ==== Sys2Proof/Machine/Operands.lean ====
section
/-! DEFINITION. Operand forms: the address-phase byte (30_encoding.md R105), the values of roles and
events (R100, R110), the increments and decrements of cursors and lengths (R117), and the contexts in
which HOST issues operations (60_exceptions.md R305). -/

namespace Sys2Proof.Machine

/-- `ADDRBYTE(a7, rw) = { a7, rw }` (30_encoding.md R105); `rw` false is the write direction. -/
def addrByte (a : Addr7) (rw : Bool) : Byte := (a ++ BitVec.ofBool rw : BitVec (7 + 1))

/-- The value of a role in `SES_ROLE` and `RESULT.VAL` (10_state.md R21). -/
def Role.code : Role → BitVec 2
  | .ready => 0
  | .busyRx => 1
  | .busyTx => 2

/-- The code of an event on the callback port (30_encoding.md R110). -/
def Event.code : Event → BitVec 4
  | .masterTxComplete => 0
  | .masterRxComplete => 1
  | .slaveStopDetected => 2
  | .errBus => 3
  | .errArbitrationLost => 4
  | .errAckFailure => 5
  | .errOverrun => 6
  | .errTimeout => 7
  | .slaveDataRequested => 8
  | .slaveReadRequest => 9

/-- The event that reports an error flag (44_dispatcher.md R258). -/
def ErrFlag.event : ErrFlag → Event
  | .berr => .errBus
  | .arlo => .errArbitrationLost
  | .af => .errAckFailure
  | .ovr => .errOverrun
  | .timeout => .errTimeout

/-- The position after the check of an error flag: the order X0 to X4, then the exit (R257, R258). -/
def ErrFlag.nextCheck : ErrFlag → DStep
  | .berr => .err .arlo .check
  | .arlo => .err .af .check
  | .af => .err .ovr .check
  | .ovr => .err .timeout .check
  | .timeout => .exit

/-- A cursor after one unit: `+ 1` modulo 2^32 (20_memory.md R89). -/
def advance (cursor : Word) : Word := cursor + 1

/-- A length after one unit (30_encoding.md R117 c). -/
def decrement (len : Word) : Word := len - 1

/-- Thread context: SEQ is idle (60_exceptions.md R305). -/
abbrev State.inThread (s : State) : Prop := s.seqMode = .idle

/-- HOST can issue an operation or access the register port: thread context or callback context
(10_state.md R44, 30_encoding.md R114). -/
abbrev State.hostReady (s : State) : Prop := s.seqMode = .idle ∨ s.cbw = true

end Sys2Proof.Machine
end

