-- ==== Sys2Proof/Machine/Flags.lean ====
section
/-! DEFINITION. Flag computations: the register words (10_state.md R29 to R43, R54), the interrupt lines
(60_exceptions.md R292), the quiescent points (41_wire_engine.md R163), the error flags by name. -/

namespace Sys2Proof.Machine

/-- A word with bit `n` equal to `b` and every other bit 0. -/
def bitAt (n : Nat) (b : Bool) : Word := bif b then BitVec.twoPow 32 n else 0

/-- `CTRL` (10_state.md R29). -/
def State.ctrlWord (s : State) : Word :=
  bitAt 0 s.pe ||| bitAt 8 s.start ||| bitAt 9 s.stop ||| bitAt 10 s.ack

/-- `IEN` (R30). -/
def State.ienWord (s : State) : Word :=
  bitAt 8 s.iterren ||| bitAt 9 s.itevten ||| bitAt 10 s.itbufen

/-- `OAR`: `ADD` = bits 7:1 (R31). -/
def State.oarWord (s : State) : Word := (0#24 ++ s.own ++ 0#1 : BitVec (24 + 7 + 1))

/-- `CFG`: `FS` = bit 15, `DUTY` = bit 14 (R32). -/
def State.cfgWord (s : State) : Word := bitAt 15 s.fs ||| bitAt 14 s.duty

/-- `SR1` (R35). -/
def State.sr1Word (s : State) : Word :=
  bitAt 0 s.sb ||| bitAt 1 s.addr ||| bitAt 2 s.btf ||| bitAt 4 s.stopf ||| bitAt 6 s.rxne |||
    bitAt 7 s.txe ||| bitAt 8 s.berr ||| bitAt 9 s.arlo ||| bitAt 10 s.af ||| bitAt 11 s.ovr |||
    bitAt 14 s.timeout

/-- `SR2` (R43). -/
def State.sr2Word (s : State) : Word := bitAt 0 s.msl ||| bitAt 1 s.busy ||| bitAt 2 s.tra

/-- `SES_ROLE` (R54). -/
def State.sesRoleWord (s : State) : Word := s.role.code.setWidth 32

/-- `SES_TARGET`: bits 6:0 = `TADDR`, bit 8 = `RS` (R54). -/
def State.sesTargetWord (s : State) : Word := s.taddr.setWidth 32 ||| bitAt 8 s.rs

/-- `RESULT`: `VAL` = bits 7:0, `ST` = bits 9:8 (R47). -/
def State.resultWord (s : State) : Word := (0#22 ++ s.resSt ++ s.resVal : BitVec (22 + 2 + 8))

/-- `CLKEN`: bit 0 (R48). -/
def State.clkenWord (s : State) : Word := bitAt 0 s.clken

/-- `irq_ev` (60_exceptions.md R292). -/
def State.irqEv (s : State) : Bool :=
  s.itevten && (s.sb || s.addr || s.btf || s.stopf || (s.itbufen && (s.txe || s.rxne)))

/-- `irq_er` (R292). -/
def State.irqEr (s : State) : Bool :=
  s.iterren && (s.berr || s.arlo || s.af || s.ovr || s.timeout)

/-- `reg_ready`: low while HOST's access cannot complete: during a blocking operation (10_state.md R57,
20_memory.md R90) and, the model's reading, in a dispatcher outside its callback (log 19). -/
def State.regReady (s : State) : Bool := decide s.hostReady

/-- The quiescent points `Q` of the master role (41_wire_engine.md R163). -/
abbrev State.quiescent (s : State) : Prop :=
  s.phase = .mSb ∨ s.phase = .mHalt ∨ (s.phase = .mTx ∧ s.shTx = false) ∨
    (s.phase = .mRx ∧ (s.addr = true ∨ s.nacked = true ∨ s.shRx = true))

/-- The error flag `f` of `SR1`. -/
def ErrFlag.get : ErrFlag → State → Bool
  | .berr, s => s.berr
  | .arlo, s => s.arlo
  | .af, s => s.af
  | .ovr, s => s.ovr
  | .timeout, s => s.timeout

/-- `SR1.f <- v`. -/
def ErrFlag.put : ErrFlag → Bool → State → State
  | .berr, v, s => { s with berr := v }
  | .arlo, v, s => { s with arlo := v }
  | .af, v, s => { s with af := v }
  | .ovr, v, s => { s with ovr := v }
  | .timeout, v, s => { s with timeout := v }

/-- `ADDR` goes from 1 to 0: `ADDR_RD` is cleared and, for a transmitter, `TXE` set (10_state.md R37, R41). -/
def State.releaseAddr (s : State) : State :=
  { s with addr := false, addrRd := false, txe := if s.tra then true else s.txe }

end Sys2Proof.Machine
end

