-- ==== Sys2Proof/Machine/Ops.lean ====
section
/-! DEFINITION. The shared operations: trace and result, buffer memory, data register, the primitives
as SEQ and HOST perform them, start and stop, the closing sequence, entering and leaving a
dispatcher, the callback hand-off, `illegal()`. -/

namespace Sys2Proof.Machine

/-! ### Trace and result -/

/-- `TRACE += e` (10_state.md R50). -/
def State.log (s : State) (e : Rec) : State := { s with trace := s.trace ++ [e] }

/-- `RESULT.VAL <- v; RESULT.ST <- st` (10_state.md R47). -/
def State.setResult (s : State) (v : Byte) (st : BitVec 2) : State := { s with resVal := v, resSt := st }

/-- `illegal()` for the command word `w` (30_encoding.md R112): the reaction the spec defines, which the
model takes (log 4). -/
def illegal (w : Word) (s : State) : State := (s.log (.op (.illegal w))).setResult 0 1

/-- An operation with command word `w`: `t` if it is legal, `illegal()` otherwise (R112). -/
def issue (legal : Prop) [Decidable legal] (w : Word) (s t : State) :
    Host.Outcome State Fault Refusal :=
  .next (if legal then t else illegal w s)

/-! ### Buffer memory (20_memory.md R71, R72) -/

/-- What an unlisted address reads as (log 7). -/
def Memory.unlisted : Byte := 0

/-- The unit at an address. -/
def Memory.get : List Host.Cell → Nat → Byte
  | [], _ => Memory.unlisted
  | (k, x) :: m, a => if k = a then x else Memory.get m a

/-- The cell of `a` before the cells `m`, left out if it holds what an unlisted address reads as. -/
def Memory.cons (a : Nat) (v : Byte) (m : List Host.Cell) : List Host.Cell :=
  if v = Memory.unlisted then m else (a, v) :: m

/-- `Mem[a] <- v`, keeping the canonical form. -/
def Memory.set : List Host.Cell → Nat → Byte → List Host.Cell
  | [], a, v => Memory.cons a v []
  | (k, x) :: m, a, v =>
    if k < a then (k, x) :: Memory.set m a v
    else if k = a then Memory.cons a v m
    else Memory.cons a v ((k, x) :: m)

/-- Addresses rise strictly from `lo`, stay inside the 2^32 units (R70), and no entry holds what an
unlisted address reads as. -/
def Memory.wfFrom : Nat → List Host.Cell → Bool
  | _, [] => true
  | lo, (k, x) :: m => decide (lo ≤ k) && decide (k < 2 ^ 32) && decide (x ≠ Memory.unlisted) &&
      Memory.wfFrom (k + 1) m

/-- The canonical form of memory. -/
def Memory.wf (m : List Host.Cell) : Bool := Memory.wfFrom 0 m

/-- The unit at buffer address `a`. -/
def State.memAt (s : State) (a : Word) : Byte := Memory.get s.mem a.toNat

/-- `Mem[a] <- v` without a record: what HOST itself does (20_memory.md R71). -/
def State.memPut (s : State) (a : Word) (v : Byte) : State :=
  { s with mem := Memory.set s.mem a.toNat v }

/-- `MemRead(a, 1)` (R72): its value is `s.memAt a`; the state gains the record. -/
def memRead (a : Word) (s : State) : State := s.log (.memr a (s.memAt a))

/-- `MemWrite(a, 1, v)` (R72). -/
def memWrite (a : Word) (v : Byte) (s : State) : State := (s.memPut a v).log (.memw a v)

/-! ### Data register -/

/-- `DR_READ()` (10_state.md R33): its value is the `DR` before it. -/
def drRead (s : State) : State :=
  (if s.shRx then { s with dr := s.shift, shRx := false, btf := false }
    else { s with rxne := false }).log (.drr s.dr)

/-- `DR_WRITE(v)` (10_state.md R34). -/
def drWrite (v : Byte) (s : State) : State :=
  let s := { s with dr := v }.log (.drw v)
  if s.sb then
    { s with sb := false, shift := v, shTx := true, shRx := false, btf := false, phase := .mAddr }
  else if s.tra ∧ (s.phase = .mTx ∨ s.phase = .sTx) ∧ s.addr = false then
    if s.shTx then { s with btf := false, txe := false }
    else { s with btf := false, shift := v, shTx := true, txe := true }
  else s

/-! ### The primitives (40_primitives.md), each with its record (R144) -/

/-- `P_CLK_EN`, R130. -/
def clkEnOp (s : State) : State := { s with clken := true }.log (.prim .clkEn)
/-- `P_CLK_DIS` where it is legal, R131. -/
def clkDisOp (s : State) : State := { s with clken := false }.log (.prim .clkDis)
/-- `P_PE_EN`, R132. -/
def peEnOp (s : State) : State := { s with pe := true }.log (.prim .peEn)
/-- `P_PE_DIS` where it is legal, R133. -/
def peDisOp (s : State) : State :=
  { s with pe := false, start := false, stop := false }.log (.prim .peDis)
/-- The condition of `P_CLK_DIS`, R131. -/
abbrev State.clkDisOk (s : State) : Prop := s.pe = false
/-- The condition of `P_PE_DIS`, R133. -/
abbrev State.peDisOk (s : State) : Prop := s.phase = .idle ∧ s.role = .ready
/-- `P_ACK_EN`, R134. -/
def ackEnOp (s : State) : State := { s with ack := true }.log (.prim .ackEn)
/-- `P_ACK_DIS`, R135. -/
def ackDisOp (s : State) : State := { s with ack := false }.log (.prim .ackDis)
/-- `P_START_REQ`, R136. -/
def startReqOp (s : State) : State := { s with start := true }.log (.prim .startReq)
/-- `P_STOP_REQ`, R137. -/
def stopReqOp (s : State) : State := { s with stop := true }.log (.prim .stopReq)
/-- `P_ADDR_W`, R138. -/
def addrWOp (a : Addr7) (s : State) : State := drWrite (addrByte a false) (s.log (.prim (.addrW a)))
/-- `P_ADDR_R`, R139. -/
def addrROp (a : Addr7) (s : State) : State := drWrite (addrByte a true) (s.log (.prim (.addrR a)))
/-- `P_READ_UNIT`, R140; the unit read is the `DR` before it; the record `PRIM` precedes `DRR` (log 14). -/
def readUnitOp (s : State) : State := drRead (s.log (.prim .readUnit))
/-- `P_WRITE_UNIT`, R141; the record `PRIM` precedes `DRW` (log 14). -/
def writeUnitOp (d : Byte) (s : State) : State := drWrite d (s.log (.prim (.writeUnit d)))
/-- `P_CLEAR_ADDR`, R142, with its ACK rule and no other (R147). -/
def clearAddrOp (s : State) : State :=
  let s := if s.role = .busyRx ∧ s.remain = 1 then ackDisOp s else s
  let s := s.log (.prim .clearAddr)
  if s.addr then s.releaseAddr else s
/-- `P_CLEAR_STOPF`, R143. -/
def clearStopfOp (s : State) : State := { s with stopf := false }.log (.prim .clearStopf)

/-! ### Start and stop conditions (41_wire_engine.md) -/

/-- `do_start` (R164). -/
def doStart (s : State) : State :=
  { s with start := false, sb := true, msl := true, busy := true, tra := false, phase := .mSb,
           txe := false, btf := false, nacked := false, shTx := false, shRx := false }

/-- `do_stop` (R166). -/
def doStop (s : State) : State :=
  let s := if s.tra then { s with txe := false, btf := false, shTx := false } else s
  { s with stop := false, sb := false, msl := false, busy := false, tra := false, phase := .idle,
           nacked := false }

/-- The closing sequence `CLOSE` (43_async_engine.md R224). -/
def closeOp (s : State) : State :=
  { s with itbufen := false, itevten := false, cursor := 0, remain := 0, role := .ready,
           taddr := 0, rs := false }.log .close

/-! ### Entry and return: the counterpart of taking an exception (60_exceptions.md R312) -/

/-- The first check of a dispatcher (R299). -/
def IrqLine.firstCheck : IrqLine → DStep
  | .ev => .e0
  | .er => .err .berr .check

/-- The mode of SEQ in a dispatcher (R299). -/
def IrqLine.mode : IrqLine → SeqMode
  | .ev => .ev
  | .er => .er

/-- The record of a dispatcher's entry (44_dispatcher.md R241, R257). -/
def IrqLine.opRec : IrqLine → OpRec
  | .ev => .evdisp
  | .er => .erdisp

/-- Entering a dispatcher (60_exceptions.md R299): nothing is saved. -/
def enterDispatcher (l : IrqLine) (s : State) : State :=
  { s with seqMode := l.mode, dpc := l.firstCheck }.log (.op l.opRec)

/-- Leaving a dispatcher (44_dispatcher.md R241, R257; 60_exceptions.md R301): nothing is restored. -/
def exitDispatcher (s : State) : State := { s with seqMode := .idle }.setResult 0 0

/-- `CB(code)` as the last action before position `next` (60_exceptions.md R297). -/
def callback (e : Event) (next : DStep) (s : State) : State :=
  let s := { s with dpc := next }.log (.cb e)
  if s.cbEn then { s with cbw := true, cbValid := true, cbCode := e.code } else s

/-- `cb_done` (R297): the dispatcher resumes at its next action. -/
def callbackDone (s : State) : State := { s with cbw := false, cbValid := false }

end Sys2Proof.Machine
end

