-- ==== Sys2Proof/Machine/Async.lean ====
section
/-! DEFINITION. The Interrupt-Driven Transfer Engine: arming operations (43_async_engine.md R220 to R222),
each one micro-operation (20_memory.md R84). -/

namespace Sys2Proof.Machine

/-- The conditions under which an arming operation is legal (R220, 30_encoding.md R113, R114). -/
abbrev State.asyncOk (s : State) : Prop := s.hostReady ∧ s.clken = true ∧ s.opLen ≠ 0

/-- The session of an accepted transfer and its three interrupt enables (R221, R222). -/
def armSession (role : Role) (a : Addr7) (rs : Bool) (s : State) : State :=
  { s with cursor := s.opBuf, remain := s.opLen, taddr := a, rs := rs, role := role,
           itbufen := true, itevten := true, iterren := true }

/-- The effect of an arming operation: `arm` if the session is ready; the role at entry is returned. -/
def arming (t : Transfer) (a : Addr7) (rs : Bool) (arm : State → State) (s : State) : State :=
  let prev := s.role
  let s := s.log (.op (.transfer t s.opBuf s.opLen a rs))
  (if prev = .ready then arm s else s).setResult (prev.code.setWidth 8) 0

/-- `MSEND_A` (R221). -/
def execMsendA (a : Addr7) (rs : Bool) (s : State) : Host.Outcome State Fault Refusal :=
  issue s.asyncOk (encode (.msendA a rs)) s
    (arming .msendA a rs (fun s => startReqOp (armSession .busyTx a rs s)) s)

/-- `MRECV_A` (R222). -/
def execMrecvA (a : Addr7) (rs : Bool) (s : State) : Host.Outcome State Fault Refusal :=
  issue s.asyncOk (encode (.mrecvA a rs)) s
    (arming .mrecvA a rs (fun s => startReqOp (ackEnOp (armSession .busyRx a rs s))) s)

end Sys2Proof.Machine
end

