-- ==== Sys2Proof/Machine/Blocking.lean ====
section
/-! DEFINITION. The Blocking Transfer Engine (42_blocking_engine.md): acceptance of `MSEND` and `MRECV`
(R200) and their steps (R202, R204). -/

namespace Sys2Proof.Machine

/-- The conditions under which a blocking transfer is legal (R200, 30_encoding.md R113, R114). -/
abbrev State.blockingOk (s : State) : Prop := s.inThread ∧ s.clken = true ∧ s.opLen ≠ 0

/-- Acceptance or rejection of a blocking transfer, one micro-operation (R200). -/
def acceptBlocking (t : Transfer) (op : BlockOp) (first : BStep) (a : Addr7) (rs : Bool) (s : State) :
    State :=
  let s := s.log (.op (.transfer t s.opBuf s.opLen a rs))
  if s.role = .ready then
    { s with wCur := s.opBuf, wLen := s.opLen, wAddr := a, wRs := rs, bop := op, bpc := first,
             seqMode := .blk }
  else s.setResult (s.role.code.setWidth 8) 0

/-- `MSEND`: acceptance (R200, R202); its steps are `blockingStep`. -/
def execMsend (a : Addr7) (rs : Bool) (s : State) : Host.Outcome State Fault Refusal :=
  issue s.blockingOk (encode (.msend a rs)) s (acceptBlocking .msend .msend .t0 a rs s)

/-- `MRECV`: acceptance (R200, R204); its steps are `blockingStep`. -/
def execMrecv (a : Addr7) (rs : Bool) (s : State) : Host.Outcome State Fault Refusal :=
  issue s.blockingOk (encode (.mrecv a rs)) s (acceptBlocking .mrecv .mrecv .v0 a rs s)

/-- The end of an accepted blocking operation (R200). -/
def finishBlocking (s : State) : State := { s with seqMode := .idle }.setResult 0 0

/-- `P_STOP_REQ` unless the stop is suppressed by a repeated start (T8, V7, V12.2, E2.1, E4.3). -/
def stopUnless (rs : Bool) (s : State) : State := if rs then s else stopReqOp s

/-- The action of T6: one unit from memory to the data register. -/
def sendUnit (s : State) : State :=
  let v := s.memAt s.wCur
  { drWrite v (memRead s.wCur s) with wCur := advance s.wCur, wLen := decrement s.wLen }

/-- The action of V9 and V13 on memory and cursor: one unit from the data register to memory; `len` is
the new `W_LEN`. -/
def recvUnit (len : Word) (s : State) : State :=
  { memWrite s.wCur s.dr (drRead s) with wCur := advance s.wCur, wLen := len }

/-- The spin on `ADDR` passes (T3, V4): the flag is set, whoever set it and when, and the operation's transfer has not
ended in a NACK or a lost arbitration, after which R202 and R205 have the operation spin for ever (log 22). -/
abbrev State.addrAcked (s : State) : Prop := s.addr = true ∧ s.wFailed = false

/-- The spin on `TXE` passes (T5; log 22). -/
abbrev State.unitWanted (s : State) : Prop := s.txe = true ∧ s.wFailed = false

/-- The spin on `TXE` and `BTF` passes (T7; log 22). -/
abbrev State.unitsSent (s : State) : Prop := s.txe = true ∧ s.btf = true ∧ s.wFailed = false

/-- The spin on `RXNE` passes (V8, V11; log 22): on any unit in `DR`, a stale one too (70_reset_and_hazards.md R336). -/
abbrev State.unitArrived (s : State) : Prop := s.rxne = true ∧ s.wFailed = false

/-- One step of the running blocking operation (R201): an action, or one evaluation of a spin. -/
def blockingStep (s : State) : State :=
  match s.bpc with
  | .t0 => { startReqOp s with bpc := .t1 }
  | .t1 => if s.sb then { s with bpc := .t2 } else s
  | .t2 => { addrWOp s.wAddr s with bpc := .t3, wFailed := false }
  | .t3 => if s.addrAcked then { s with bpc := .t4 } else s
  | .t4 => { clearAddrOp s with bpc := .t5 }
  | .t5 => if s.wLen = 0 then { s with bpc := .t7 } else if s.unitWanted then { s with bpc := .t6 } else s
  | .t6 => { sendUnit s with bpc := .t5 }
  | .t7 => if s.unitsSent then { s with bpc := .t8 } else s
  | .t8 => finishBlocking (stopUnless s.wRs s)
  | .v0 => { ackEnOp s with bpc := .v1 }
  | .v1 => { startReqOp s with bpc := .v2 }
  | .v2 => if s.sb then { s with bpc := .v3 } else s
  | .v3 => { addrROp s.wAddr s with bpc := .v4, wFailed := false }
  | .v4 => if s.addrAcked then { s with bpc := if s.wLen = 1 then .v5 else .v10 } else s
  | .v5 => { ackDisOp s with bpc := .v6 }
  | .v6 => { clearAddrOp s with bpc := .v7 }
  | .v7 => { stopUnless s.wRs s with bpc := .v8 }
  | .v8 => if s.unitArrived then { s with bpc := .v9 } else s
  | .v9 => finishBlocking (recvUnit 0 s)
  | .v10 => { clearAddrOp s with bpc := .v11 }
  | .v11 => if s.wLen = 0 then finishBlocking s else if s.unitArrived then { s with bpc := .v12 } else s
  | .v12 => if s.wLen = 2 then { ackDisOp s with bpc := .v12b } else { s with bpc := .v13 }
  | .v12b => { stopUnless s.wRs s with bpc := .v13 }
  | .v13 => { recvUnit (decrement s.wLen) s with bpc := .v11 }

end Sys2Proof.Machine
end

