-- ==== Sys2Proof/Machine/Dispatchers.lean ====
section
/-! DEFINITION. The event and the error dispatcher (44_dispatcher.md): the operations `EVDISP` and
`ERDISP` and the micro-operations of their checks. -/

namespace Sys2Proof.Machine

/-- A dispatcher operation is legal in thread context with the clock on (R241, R257, 30_encoding.md R114). -/
abbrev State.dispatchOk (s : State) : Prop := s.inThread ∧ s.clken = true

/-- `EVDISP` (R241): the entry; its checks are `dispatcherStep`. -/
def execEvdisp (s : State) : Host.Outcome State Fault Refusal :=
  issue s.dispatchOk (encode .evdisp) s (enterDispatcher .ev s)

/-- `ERDISP` (R257): the entry; its checks are `dispatcherStep`. -/
def execErdisp (s : State) : Host.Outcome State Fault Refusal :=
  issue s.dispatchOk (encode .erdisp) s (enterDispatcher .er s)

/-- The action of E0 (R248), whoever requested the start: HOST can retry a stuck session, as R258 has it (log 24). -/
def addressPhase (s : State) : State :=
  match s.role with
  | .busyTx => addrWOp s.taddr s
  | .busyRx => addrROp s.taddr s
  | .ready => s

/-- The action E4.2 (R253). -/
def storeUnit (s : State) : State :=
  { memWrite s.cursor s.dr (drRead s) with cursor := advance s.cursor, remain := decrement s.remain }

/-- The action of E5, master branch (R255). -/
def loadUnit (s : State) : State :=
  let v := s.memAt s.cursor
  { drWrite v (memRead s.cursor s) with cursor := advance s.cursor, remain := decrement s.remain }

/-- Guard of E2 (R250). A slave transmitter is left alone, as R250's text has it, so that a slave transmission does not
close a session that lost the bus (43_async_engine.md R226; log 24). -/
abbrev txCompleteGuard (s : State) : Prop :=
  s.btf = true ∧ s.role = .busyTx ∧ s.remain = 0 ∧ s.txe = true ∧ s.phase ≠ .sTx

/-- Guard of E4, master branch (R253). -/
abbrev masterRxGuard (s : State) : Prop :=
  s.rxne = true ∧ s.msl = true ∧ s.role = .busyRx ∧ s.remain ≠ 0

/-- Guard of E4, slave branch (R254). -/
abbrev slaveRxGuard (s : State) : Prop := s.rxne = true ∧ s.msl = false ∧ s.tra = false

/-- Guard of E5, master branch (R255). -/
abbrev masterTxGuard (s : State) : Prop :=
  s.txe = true ∧ s.msl = true ∧ s.role = .busyTx ∧ s.remain ≠ 0

/-- Guard of E5, slave branch (R256). -/
abbrev slaveTxGuard (s : State) : Prop := s.txe = true ∧ s.msl = false ∧ s.tra = true

/-- One micro-operation of the running dispatcher (R241, R257): one evaluation of a guard on the state
as it is (R242), or one action. -/
def dispatcherStep (s : State) : State :=
  match s.dpc with
  | .e0 => { s with dpc := if s.sb then .e0a else .e1 }
  | .e0a => { addressPhase s with dpc := .e1 }
  | .e1 => { s with dpc := if s.addr then .e1a else .e2 }
  | .e1a => { clearAddrOp s with dpc := .e2 }
  | .e2 => { s with dpc := if txCompleteGuard s then .e2s1 else .e3 }
  | .e2s1 => { stopUnless s.rs s with dpc := .e2s2 }
  | .e2s2 => { closeOp s with dpc := .e2s3 }
  | .e2s3 => callback .masterTxComplete .e3 s
  | .e3 => { s with dpc := if s.stopf then .e3s1 else .e4 }
  | .e3s1 => { clearStopfOp s with dpc := .e3s2 }
  | .e3s2 => callback .slaveStopDetected .e4 s
  | .e4 => { s with dpc := if masterRxGuard s then .e4s1 else if slaveRxGuard s then .e4slave else .e5 }
  | .e4s1 => { (if s.remain = 2 then ackDisOp s else s) with dpc := .e4s2 }
  | .e4s2 => { storeUnit s with dpc := if decrement s.remain = 0 then .e4s3 else .e5 }
  | .e4s3 => { stopUnless s.rs s with dpc := .e4s4 }
  | .e4s4 => { closeOp s with dpc := .e4s5 }
  | .e4s5 => callback .masterRxComplete .e5 s
  | .e4slave => callback .slaveReadRequest .e5 s
  | .e5 =>
    { s with dpc := if masterTxGuard s then .e5master else if slaveTxGuard s then .e5slave else .exit }
  | .e5master => { loadUnit s with dpc := .exit }
  | .e5slave => callback .slaveDataRequested .exit s
  | .err f .check => { s with dpc := if f.get s then .err f .clear else f.nextCheck }
  | .err f .clear => { (f.put false s).log (.clr f) with dpc := .err f .call }
  | .err f .call => callback f.event f.nextCheck s
  | .exit => exitDispatcher s

end Sys2Proof.Machine
end

