-- ==== Sys2Proof/Machine/Primitives.lean ====
section
/-! DEFINITION. The fourteen primitives as operations that HOST issues (40_primitives.md): legal in
thread and in callback context (30_encoding.md R114) with the clock on (R144), under the primitive's
own condition. -/

namespace Sys2Proof.Machine

/-- The common condition of a primitive issued by HOST (R114, R144). -/
abbrev State.primOk (s : State) : Prop := s.hostReady ∧ s.clken = true

/-- `P_CLK_EN`, R130: legal also while `CLKEN = 0`. -/
def execPClkEn (s : State) : Host.Outcome State Fault Refusal :=
  issue s.hostReady (encode .pClkEn) s ((clkEnOp s).setResult 0 0)

/-- `P_CLK_DIS`, R131. -/
def execPClkDis (s : State) : Host.Outcome State Fault Refusal :=
  issue (s.primOk ∧ s.clkDisOk) (encode .pClkDis) s ((clkDisOp s).setResult 0 0)

/-- `P_PE_EN`, R132. -/
def execPPeEn (s : State) : Host.Outcome State Fault Refusal :=
  issue s.primOk (encode .pPeEn) s ((peEnOp s).setResult 0 0)

/-- `P_PE_DIS`, R133. -/
def execPPeDis (s : State) : Host.Outcome State Fault Refusal :=
  issue (s.primOk ∧ s.peDisOk) (encode .pPeDis) s ((peDisOp s).setResult 0 0)

/-- `P_ACK_EN`, R134. -/
def execPAckEn (s : State) : Host.Outcome State Fault Refusal :=
  issue s.primOk (encode .pAckEn) s ((ackEnOp s).setResult 0 0)

/-- `P_ACK_DIS`, R135. -/
def execPAckDis (s : State) : Host.Outcome State Fault Refusal :=
  issue s.primOk (encode .pAckDis) s ((ackDisOp s).setResult 0 0)

/-- `P_START_REQ`, R136. -/
def execPStartReq (s : State) : Host.Outcome State Fault Refusal :=
  issue s.primOk (encode .pStartReq) s ((startReqOp s).setResult 0 0)

/-- `P_STOP_REQ`, R137. -/
def execPStopReq (s : State) : Host.Outcome State Fault Refusal :=
  issue s.primOk (encode .pStopReq) s ((stopReqOp s).setResult 0 0)

/-- `P_ADDR_W`, R138. -/
def execPAddrW (a : Addr7) (s : State) : Host.Outcome State Fault Refusal :=
  issue s.primOk (encode (.pAddrW a)) s ((addrWOp a s).setResult 0 0)

/-- `P_ADDR_R`, R139. -/
def execPAddrR (a : Addr7) (s : State) : Host.Outcome State Fault Refusal :=
  issue s.primOk (encode (.pAddrR a)) s ((addrROp a s).setResult 0 0)

/-- `P_READ_UNIT`, R140: the unit read is the `DR` before the read. -/
def execPReadUnit (s : State) : Host.Outcome State Fault Refusal :=
  issue s.primOk (encode .pReadUnit) s ((readUnitOp s).setResult s.dr 0)

/-- `P_WRITE_UNIT`, R141. -/
def execPWriteUnit (d : Byte) (s : State) : Host.Outcome State Fault Refusal :=
  issue s.primOk (encode (.pWriteUnit d)) s ((writeUnitOp d s).setResult 0 0)

/-- `P_CLEAR_ADDR`, R142. -/
def execPClearAddr (s : State) : Host.Outcome State Fault Refusal :=
  issue s.primOk (encode .pClearAddr) s ((clearAddrOp s).setResult 0 0)

/-- `P_CLEAR_STOPF`, R143. -/
def execPClearStopf (s : State) : Host.Outcome State Fault Refusal :=
  issue s.primOk (encode .pClearStopf) s ((clearStopfOp s).setResult 0 0)

end Sys2Proof.Machine
end

