-- ==== Sys2Proof/Machine/System.lean ====
section
/-! DEFINITION. System operations `INIT` and `SET_CB` and the slave-mode primitives `SRECV` and `SSEND`
(45_slave_and_system.md). -/

namespace Sys2Proof.Machine

/-- The conditions under which `INIT` is legal; it does not ask for the clock (R270). -/
abbrev State.initOk (s : State) : Prop := s.inThread ∧ s.pe = false ∧ s.role = .ready

/-- `INIT` (R270). -/
def execInit (own : Addr7) (fs duty ackp : Bool) (s : State) : Host.Outcome State Fault Refusal :=
  issue s.initOk (encode (.init own fs duty ackp)) s
    (({ s with clken := true, fs := fs, duty := duty, own := own, ack := ackp }.log
      (.op (.init own fs duty ackp))).setResult 0 0)

/-- The condition of `SET_CB`, `SRECV`, `SSEND` (R272, R274, R275, 30_encoding.md R114). -/
abbrev State.apiOk (s : State) : Prop := s.hostReady ∧ s.clken = true

/-- `SET_CB` (R272). -/
def execSetCb (en : Bool) (s : State) : Host.Outcome State Fault Refusal :=
  issue s.apiOk (encode (.setCb en)) s (({ s with cbEn := en }.log (.op (.setCb en))).setResult 0 0)

/-- `SRECV` (R274); the record `OP` precedes `DRR` (log 14). -/
def execSrecv (s : State) : Host.Outcome State Fault Refusal :=
  issue s.apiOk (encode .srecv) s ((drRead (s.log (.op .srecv))).setResult s.dr 0)

/-- `SSEND` (R275); the record `OP` precedes `DRW` (log 14). -/
def execSsend (d : Byte) (s : State) : Host.Outcome State Fault Refusal :=
  issue s.apiOk (encode (.ssend d)) s ((drWrite d (s.log (.op (.ssend d)))).setResult 0 0)

end Sys2Proof.Machine
end

