-- ==== Sys2Proof/Machine/Dispatch.lean ====
section
/-! DEFINITION. The meaning of every operation, as HOST (or the plumbing) issues it. -/

namespace Sys2Proof.Machine

def exec (i : Instr) (s : State) : Host.Outcome State Fault Refusal :=
  match i with
  | .pClkEn => Sys2Proof.Machine.execPClkEn s
  | .pClkDis => Sys2Proof.Machine.execPClkDis s
  | .pPeEn => Sys2Proof.Machine.execPPeEn s
  | .pPeDis => Sys2Proof.Machine.execPPeDis s
  | .pAckEn => Sys2Proof.Machine.execPAckEn s
  | .pAckDis => Sys2Proof.Machine.execPAckDis s
  | .pStartReq => Sys2Proof.Machine.execPStartReq s
  | .pStopReq => Sys2Proof.Machine.execPStopReq s
  | .pAddrW a => Sys2Proof.Machine.execPAddrW a s
  | .pAddrR a => Sys2Proof.Machine.execPAddrR a s
  | .pReadUnit => Sys2Proof.Machine.execPReadUnit s
  | .pWriteUnit d => Sys2Proof.Machine.execPWriteUnit d s
  | .pClearAddr => Sys2Proof.Machine.execPClearAddr s
  | .pClearStopf => Sys2Proof.Machine.execPClearStopf s
  | .init own fs duty ackp => Sys2Proof.Machine.execInit own fs duty ackp s
  | .setCb en => Sys2Proof.Machine.execSetCb en s
  | .msend a rs => Sys2Proof.Machine.execMsend a rs s
  | .mrecv a rs => Sys2Proof.Machine.execMrecv a rs s
  | .msendA a rs => Sys2Proof.Machine.execMsendA a rs s
  | .mrecvA a rs => Sys2Proof.Machine.execMrecvA a rs s
  | .srecv => Sys2Proof.Machine.execSrecv s
  | .ssend d => Sys2Proof.Machine.execSsend d s
  | .evdisp => Sys2Proof.Machine.execEvdisp s
  | .erdisp => Sys2Proof.Machine.execErdisp s

end Sys2Proof.Machine
end

