-- ==== Sys2Proof/Machine/RegPort.lean ====
section
/-! DEFINITION. The register port (10_state.md R54, 20_memory.md R74 to R81): what each register reads as,
and the effects of reads and writes. A write of `CMD` issues an operation and stands in Agents.lean. -/

namespace Sys2Proof.Machine

/-- The registers of the map of 10_state.md R54. -/
inductive Reg where
  | ctrl | ien | oar | cfg | dr | sr1 | sr2
  | sesRole | sesCursor | sesRemain | sesTarget
  | opBuf | opLen | cmd | result | clken
  /-- A reserved or misaligned offset (R54, R81). -/
  | reserved
  deriving DecidableEq, Repr

/-- The register at a byte offset (R54). -/
def regAt (off : Offset) : Reg :=
  match off.toNat with
  | 0x00 => .ctrl
  | 0x04 => .ien
  | 0x08 => .oar
  | 0x0C => .cfg
  | 0x10 => .dr
  | 0x14 => .sr1
  | 0x18 => .sr2
  | 0x20 => .sesRole
  | 0x24 => .sesCursor
  | 0x28 => .sesRemain
  | 0x2C => .sesTarget
  | 0x30 => .opBuf
  | 0x34 => .opLen
  | 0x38 => .cmd
  | 0x3C => .result
  | 0x40 => .clken
  | _ => .reserved

/-- The register an access of a given width reaches: only a word access is a transaction of the port
(R81; log 13). -/
def portReg (width : PortWidth) (off : Offset) : Reg :=
  match width with
  | .word => regAt off
  | .other => .reserved

/-- The word a register reads as. -/
def regValue (r : Reg) (s : State) : Word :=
  match r with
  | .ctrl => s.ctrlWord
  | .ien => s.ienWord
  | .oar => s.oarWord
  | .cfg => s.cfgWord
  | .dr => s.dr.setWidth 32
  | .sr1 => s.sr1Word
  | .sr2 => s.sr2Word
  | .sesRole => s.sesRoleWord
  | .sesCursor => s.cursor
  | .sesRemain => s.remain
  | .sesTarget => s.sesTargetWord
  | .opBuf => s.opBuf
  | .opLen => s.opLen
  | .cmd => 0
  | .result => s.resultWord
  | .clken => s.clkenWord
  | .reserved => 0

/-- The side effect of a register-port read of `SR1` (20_memory.md R79). -/
def sr1ReadEffect (s : State) : State :=
  { s with stopf := false, addrRd := if s.addr then true else s.addrRd }

/-- The side effect of a register-port read of `SR2` (R80). -/
def sr2ReadEffect (s : State) : State := if s.addrRd then s.releaseAddr else s

/-- The side effect of a read of a register (R82). -/
def regReadEffect (r : Reg) (s : State) : State :=
  match r with
  | .dr => drRead s
  | .sr1 => sr1ReadEffect s
  | .sr2 => sr2ReadEffect s
  | .ctrl | .ien | .oar | .cfg | .sesRole | .sesCursor | .sesRemain | .sesTarget
  | .opBuf | .opLen | .cmd | .result | .clken | .reserved => s

/-- `RegRead` (R74, R77 e): the word as it was before the side effect. The side effect does not ask for the clock
(log 21). -/
def regRead (r : Reg) (s : State) : State := { regReadEffect r s with rdata := regValue r s }

/-- A write of `CTRL` with word `w` performs `P_PE_DIS` (R77 c, d). -/
def disablesPe (w : Word) (s : State) : Bool := !w.getLsbD 0 && s.pe && decide s.peDisOk

/-- The part of a write of `CTRL` that bit 0 stands for (R77 d). -/
def writePe (w : Word) (s : State) : State :=
  if w.getLsbD 0 then (if s.pe then s else peEnOp s)
  else if disablesPe w s then peDisOp s else s

/-- The part of a write of `CTRL` that bit 10 stands for (R77 d). -/
def writeAck (w : Word) (s : State) : State :=
  if w.getLsbD 10 then (if s.ack then s else ackEnOp s)
  else if s.ack then ackDisOp s else s

/-- A write of `CTRL` as primitives, in the order of R77 (d): a request bit written 1 is requested after `P_PE_DIS`,
also where it writes back a request that was pending (log 20). -/
def writeCtrl (w : Word) (s : State) : State :=
  let s := writeAck w (writePe w s)
  let s := if w.getLsbD 8 then startReqOp s else s
  if w.getLsbD 9 then stopReqOp s else s

/-- A write of `SR1`: write 0 to clear on bits 8, 9, 10, 11, 14 (R79). -/
def writeSr1 (w : Word) (s : State) : State :=
  { s with berr := s.berr && w.getLsbD 8, arlo := s.arlo && w.getLsbD 9, af := s.af && w.getLsbD 10,
           ovr := s.ovr && w.getLsbD 11, timeout := s.timeout && w.getLsbD 14 }

/-- A write of `CLKEN`: clearing it takes effect only under the condition of `P_CLK_DIS` (R77 c); plain
storage, so it leaves no record (R82; log 12). -/
def writeClken (w : Word) (s : State) : State :=
  if w.getLsbD 0 then { s with clken := true }
  else if s.clkDisOk then { s with clken := false } else s

/-- A write of a register other than `CMD` and `CLKEN`, with the clock on (R74, R77 b). -/
def regWriteEffect (r : Reg) (w : Word) (s : State) : State :=
  match r with
  | .ctrl => writeCtrl w s
  | .ien => { s with iterren := w.getLsbD 8, itevten := w.getLsbD 9, itbufen := w.getLsbD 10 }
  | .oar => if s.pe then s else { s with own := w.extractLsb' 1 7 }
  | .cfg => if s.pe then s else { s with fs := w.getLsbD 15, duty := w.getLsbD 14 }
  | .dr => drWrite (w.setWidth 8) s
  | .sr1 => writeSr1 w s
  | .opBuf => { s with opBuf := w }
  | .opLen => { s with opLen := w }
  | .clken => writeClken w s
  | .sr2 | .sesRole | .sesCursor | .sesRemain | .sesTarget | .cmd | .result | .reserved => s

/-- `RegWrite` of a register other than `CMD`: while `CLKEN = 0` only `CLKEN` is written (R77 a). -/
def regWrite (r : Reg) (w : Word) (s : State) : State :=
  if s.clken = true ∨ r = .clken then regWriteEffect r w s else s

end Sys2Proof.Machine
end

