-- ==== Sys2Proof/Machine/Wire.lean ====
section
/-! DEFINITION. The wire engine (41_wire_engine.md): guards and effects of the nine wire events. The model's own field
`wFailed` notes the events after which a blocking operation spins for ever (log 22). -/

namespace Sys2Proof.Machine

/-- The external master can act on a slave receiver that does not hold the clock (R176, R178). -/
abbrev State.sRxFree (s : State) : Prop := s.phase = .sRx ∧ s.addr = false ∧ s.shRx = false

/-- Guard of `W_START` (R164). -/
abbrev startGuard (s : State) : Prop :=
  s.start = true ∧ ¬(s.stop = true ∧ s.msl = true) ∧
    (s.phase = .idle ∨ (s.msl = true ∧ s.quiescent))

/-- Guard of `W_STOP` (R166, R167). -/
abbrev stopGuard (s : State) : Prop :=
  s.stop = true ∧ ((s.msl = true ∧ s.quiescent) ∨ s.msl = false)

/-- Guard of `W_ADDR_RESULT` (R168). -/
abbrev addrResultGuard (s : State) : Prop := s.phase = .mAddr

/-- Guard of `W_TX_BYTE` (R170). -/
abbrev txByteGuard (s : State) : Prop :=
  (s.phase = .mTx ∨ s.phase = .sTx) ∧ s.addr = false ∧ s.shTx = true

/-- Guard of `W_RX_BYTE` (R172). -/
abbrev rxByteGuard (s : State) : Prop :=
  (s.phase = .mRx ∨ s.phase = .sRx) ∧ s.addr = false ∧ s.shRx = false ∧ s.nacked = false

/-- Guard of `W_E_ADDRESS` (R176). -/
abbrev eAddressGuard (s : State) : Prop :=
  s.msl = false ∧ (s.phase = .idle ∨ s.phase = .bOther ∨ s.phase = .sEnd ∨ s.sRxFree)

/-- Guard of `W_E_STOP` (R178). -/
abbrev eStopGuard (s : State) : Prop :=
  s.msl = false ∧ (s.phase = .bOther ∨ s.phase = .sEnd ∨ s.sRxFree)

/-- Guard of `W_ARLO` (R182). -/
abbrev arloGuard (s : State) : Prop :=
  s.msl = true ∧ (s.phase = .mAddr ∨ (s.phase = .mTx ∧ s.addr = false ∧ s.shTx = true))

/-- The guard of a wire event of its own. `W_ERR` has none (R184). -/
def wireGuard : WireEvent → State → Bool
  | .start, s => decide (startGuard s)
  | .stop, s => decide (stopGuard s)
  | .addrResult _, s => decide (addrResultGuard s)
  | .txByte _, s => decide (txByteGuard s)
  | .rxByte _, s => decide (rxByteGuard s)
  | .eAddress _ _, s => decide (eAddressGuard s)
  | .eStop, s => decide (eStopGuard s)
  | .arlo, s => decide (arloGuard s)
  | .err _, _ => true

/-- A wire event can occur: the common condition of R162 and its own guard. -/
abbrev wireEnabled (e : WireEvent) (s : State) : Prop :=
  s.clken = true ∧ s.pe = true ∧ wireGuard e s = true

/-- `do_stop` inside an event, with its record (R170, R172). -/
def stopNow (s : State) : State := doStop (s.log (.wire .stop))

/-- `do_start` inside an event, with the record of a repeated start (R170, R172). -/
def restartNow (s : State) : State := doStart (s.log (.wire .rstart))

/-- `W_START` (R164). -/
def wireStart (s : State) : State :=
  doStart (s.log (.wire (if s.phase = .idle then .start else .rstart)))

/-- `W_STOP` (R166; R167 where this block is not master). -/
def wireStop (s : State) : State := if s.msl then stopNow s else { s with stop := false }

/-- `W_ADDR_RESULT(a)` (R168). -/
def wireAddrResult (a : Ack) (s : State) : State :=
  let s := s.log (.wire (.addrByte s.shift a))
  match a with
  | .ack =>
    if s.shift.getLsbD 0 then
      { s with shTx := false, addr := true, addrRd := false, nacked := false, tra := false, phase := .mRx }
    else
      { s with shTx := false, addr := true, addrRd := false, nacked := false, tra := true, phase := .mTx }
  | .nack => { s with shTx := false, af := true, phase := .mHalt, wFailed := true }

/-- `W_TX_BYTE(a)` (R170). -/
def wireTxByte (a : Ack) (s : State) : State :=
  let s := s.log (.wire (.txByte s.shift a))
  match a with
  | .ack =>
    if s.msl ∧ s.stop then stopNow s
    else if s.msl ∧ s.start then restartNow s
    else if s.txe then { s with shTx := false, btf := true }
    else { s with shift := s.dr, txe := true }
  | .nack =>
    { s with shTx := false, txe := false, af := true, phase := if s.msl then .mHalt else .sEnd,
             wFailed := s.msl || s.wFailed }

/-- Where a received unit goes: to `DR`, or to `SHIFT` while `DR` is full (R172). -/
def rxPlace (b : Byte) (s : State) : State :=
  if s.rxne then { s with shift := b, shRx := true, btf := true } else { s with dr := b, rxne := true }

/-- What answering `a` to a received unit changes (R172). -/
def rxAnswer (a : Ack) (s : State) : State :=
  match a with
  | .ack => s
  | .nack => if s.msl then { s with nacked := true } else { s with phase := .sEnd }

/-- The answer of the ACK/NACK controller at this moment (R180 a). -/
def State.answer (s : State) : Ack := if s.ack then .ack else .nack

/-- `W_RX_BYTE(b)` (R172). -/
def wireRxByte (b : Byte) (s : State) : State :=
  let a := s.answer
  let s := rxAnswer a (rxPlace b (s.log (.wire (.rxByte b a))))
  if s.msl ∧ s.stop then stopNow s
  else if s.msl ∧ s.start then restartNow s
  else s

/-- The address matcher's answer (R176, R180 b). -/
def State.addrMatch (s : State) (a7 : Addr7) : Bool := decide (a7 = s.own) && s.ack

/-- `W_E_ADDRESS(a7, rw)` (R176). -/
def wireEAddress (a7 : Addr7) (rw : Bool) (s : State) : State :=
  let m := s.addrMatch a7
  let s := { s with busy := true }.log (.wire (.eAddr a7 rw m))
  if m then
    { s with addr := true, addrRd := false, tra := rw, phase := if rw then .sTx else .sRx,
             shTx := false, shRx := false, nacked := false, txe := false, btf := false }
  else { s with phase := .bOther, tra := false }

/-- `W_E_STOP` (R178). -/
def wireEStop (s : State) : State :=
  { s with stopf := if s.phase = Phase.bOther then s.stopf else true, phase := .idle, busy := false,
           tra := false, txe := false }.log (.wire .eStop)

/-- `W_ARLO` (R182). -/
def wireArlo (s : State) : State :=
  { s with arlo := true, msl := false, tra := false, shTx := false, txe := false, btf := false,
           stop := false, phase := .bOther, wFailed := true }.log (.wire .arlo)

/-- `W_ERR(f)` (R184). -/
def wireErr (f : ErrFlag) (s : State) : State := (f.put true s).log (.wire (.err f))

/-- The effect of a wire event that occurs. -/
def wireEffect : WireEvent → State → State
  | .start, s => wireStart s
  | .stop, s => wireStop s
  | .addrResult a, s => wireAddrResult a s
  | .txByte a, s => wireTxByte a s
  | .rxByte b, s => wireRxByte b s
  | .eAddress a7 rw, s => wireEAddress a7 rw s
  | .eStop, s => wireEStop s
  | .arlo, s => wireArlo s
  | .err f, s => wireErr f s

/-- A wire event offered to the bus: one whose guard is false cannot occur (R162; log 2). -/
def wireMove (e : WireEvent) (s : State) : State := if wireEnabled e s then wireEffect e s else s

end Sys2Proof.Machine
end

