-- ==== Sys2Proof/Machine/Agents.lean ====
section
/-! DEFINITION. The moves of the agents (00_scope.md R4): HOST on the register and callback ports, SEQ, the
wire events, the dispatch pulses, reset. A move that is not enabled changes nothing (log 2). -/

namespace Sys2Proof.Machine

/-- A write of `CMD` issues the operation its word encodes (20_memory.md R90); a reserved word is
`illegal()` (30_encoding.md R111, R112), also while `CLKEN = 0` (log 5). -/
def command (w : Word) (s : State) : Host.Outcome State Fault Refusal :=
  let s := { s with cmd := w }
  match decode w with
  | .ok i => exec i s
  | .error _ => .next (illegal w s)

/-- A register-port write (R74). -/
def portWrite (r : Reg) (w : Word) (s : State) : Host.Outcome State Fault Refusal :=
  if r = .cmd then command w s else .next (regWrite r w s)

/-- A move of HOST. Port accesses complete only while HOST can issue (10_state.md R44, 20_memory.md R90;
log 19), reads also with the clock gated, with their side effects (R77 e; log 21); HOST stores to its own memory at any time (20_memory.md R71;
log 25);
`cb_done` is taken while `CBW = 1` and the clock is on (60_exceptions.md R297; log 10). -/
def hostMove (a : HostAct) (s : State) : Host.Outcome State Fault Refusal :=
  match a with
  | .portRead width off => .next (if s.hostReady then regRead (portReg width off) s else s)
  | .portWrite width off w => if s.hostReady then portWrite (portReg width off) w s else .next s
  | .cbDone => .next (if s.cbw = true ∧ s.clken = true then callbackDone s else s)
  | .memStore a v => .next (s.memPut a v)

/-- SEQ's next micro-operation: none while SEQ is idle, waits for the callback, or has no clock
(60_exceptions.md R311; log 10). -/
def seqMove (s : State) : State :=
  if s.clken = false ∨ s.cbw = true then s
  else
    match s.seqMode with
    | .idle => s
    | .blk => blockingStep s
    | .ev => dispatcherStep s
    | .er => dispatcherStep s

/-- The operation a dispatch pulse enters (60_exceptions.md R299). -/
def IrqLine.instr : IrqLine → Instr
  | .ev => .evdisp
  | .er => .erdisp

/-- A dispatch pulse: the same operation as the command word (44_dispatcher.md R241); ignored while SEQ
is not idle (60_exceptions.md R299). -/
def pulseMove (l : IrqLine) (s : State) : Host.Outcome State Fault Refusal :=
  if s.seqMode = .idle then exec l.instr s else .next s

/-- Reset (70_reset_and_hazards.md R320, R321): every element at its reset value. The buffer memory belongs
to HOST and is not reset (92_eei_decisions.md D33), nor are the moves to come. -/
def resetMove (s : State) : State :=
  { State.reset with mem := s.mem, schedule := s.schedule, tick := s.tick }

/-- One move of one agent. -/
def perform (m : Move) (s : State) : Host.Outcome State Fault Refusal :=
  match m with
  | .host a => hostMove a s
  | .seq => .next (seqMove s)
  | .wire e => .next (wireMove e s)
  | .pulse l => pulseMove l s
  | .reset => .next (resetMove s)

/-- The next move: the head of `schedule`, or the free move of `tick` (log 1). -/
def nextMove (s : State) : Move :=
  match s.schedule with
  | m :: _ => m
  | [] => Config.freeMove s.tick

/-- The state once its next move has been taken from `schedule`, or from the free moves. -/
def takeMove (s : State) : State :=
  match s.schedule with
  | _ :: rest => { s with schedule := rest }
  | [] => { s with tick := s.tick + 1 }

/-- The state with `m` as the very next move. -/
def State.offer (m : Move) (s : State) : State := { s with schedule := m :: s.schedule }

/-- HOST writes the command word `w` (20_memory.md R90). -/
def cmdMove (w : Word) : Move := .host (.portWrite .word 0x38 w)

/-- The state in which HOST can issue an operation: where it can not, SEQ is taken to be idle. -/
def State.makeReady (s : State) : State :=
  if s.hostReady then s else { s with seqMode := .idle, cbValid := false }

end Sys2Proof.Machine
end

