-- ==== Sys2Proof/Machine/Step.lean ====
section
/-! DEFINITION. One step of the total order of 20_memory.md R85: one move of one agent. -/

namespace Sys2Proof.Machine

/-- One step. -/
def step (s : State) : Host.Outcome State Fault Refusal := perform (nextMove s) (takeMove s)

/-- `s` with the command word of the table's bits `w` as the very next move: the block fetches nothing
(20_memory.md R70), HOST writes the word to `CMD` (log 3). -/
def State.withFetchWord (s : State) (nbits w : Nat) : State :=
  s.makeReady.offer (cmdMove (tableWord nbits w))

end Sys2Proof.Machine
end

