-- ==== Sys2Proof/Machine/Run.lean ====
section
/-! DEFINITION. Runs and their end (70_reset_and_hazards.md R349): a start state, a program, a handler, and the
turns the agents take. -/

namespace Sys2Proof.Machine

/-- The state after one move, which always is a next state (60_exceptions.md R285). -/
def State.afterMove (m : Move) (s : State) : State :=
  match perform m s with
  | .next t => t
  | .fault _ | .refused _ => s

/-- Whose turn it is in a run; HOST's move is the program's or the handler's. -/
inductive Turn where
  | host
  | seq
  | wire (e : WireEvent)
  | pulse (l : IrqLine)
  deriving DecidableEq, Repr, Inhabited

/-- A run: `turns` stands for `Env`, for the interleaving and for the plumbing (log 1). -/
structure Run where
  start : State
  /-- HOST's operations in thread context, in order. -/
  program : List HostAct
  /-- What HOST does next in callback context; `none` is its return. -/
  handler : State → Option HostAct
  turns : Nat → Turn
  /-- Whether the last transfer that ended before the start had `rs = 1` (log 23). -/
  rsBefore : Bool

/-- A point of a run. -/
structure RunPoint where
  state : State
  /-- What HOST has not issued yet. -/
  todo : List HostAct
  /-- The repeated-start choice of the last transfer (log 23). -/
  lastRs : Bool

/-- The repeated-start choice of the last transfer: of the one the state is in, a blocking operation's (`W_RS`, R200) or
the session's (`RS`, R221, R222); in no transfer, that of the one before. -/
def State.transferRs (before : Bool) (s : State) : Bool :=
  if s.seqMode = .blk then s.wRs else if s.role = .ready then before else s.rs

/-- The point after a move, with `todo` left of the program. -/
def RunPoint.moveTo (p : RunPoint) (m : Move) (todo : List HostAct) : RunPoint :=
  { state := p.state.afterMove m, todo := todo, lastRs := (p.state.afterMove m).transferRs p.lastRs }

/-- HOST's turn (60_exceptions.md R305): its handler's next move in callback context, its program's in thread
context, and otherwise none. -/
def RunPoint.hostTurn (handler : State → Option HostAct) (p : RunPoint) : RunPoint :=
  if p.state.cbw then p.moveTo (.host ((handler p.state).getD .cbDone)) p.todo
  else
    match p.todo with
    | [] => p
    | a :: rest => if p.state.seqMode = .idle then p.moveTo (.host a) rest else p

/-- One turn. -/
def RunPoint.take (handler : State → Option HostAct) (p : RunPoint) : Turn → RunPoint
  | .host => p.hostTurn handler
  | .seq => p.moveTo .seq p.todo
  | .wire e => p.moveTo (.wire e) p.todo
  | .pulse l => p.moveTo (.pulse l) p.todo

/-- The points of a run. -/
def Run.point (r : Run) : Nat → RunPoint
  | 0 => { state := r.start, todo := r.program, lastRs := r.start.transferRs r.rsBefore }
  | n + 1 => (r.point n).take r.handler (r.turns n)

/-- The bus is at rest (R349 e): released, or held at a quiescent point of the master role by a transfer with
`rs = 1`. -/
def RunPoint.busAtRest (p : RunPoint) : Prop :=
  p.state.phase = .idle ∨ (p.state.msl = true ∧ p.state.quiescent ∧ p.lastRs = true)

/-- An end state of a run (R349 a to e). -/
structure EndState (p : RunPoint) : Prop where
  issued : p.todo = [] ∧ p.state.seqMode = .idle ∧ p.state.cbw = false
  ready : p.state.role = .ready
  noRequest : p.state.start = false ∧ p.state.stop = false
  linesLow : p.state.irqEv = false ∧ p.state.irqEr = false
  shiftEmpty : p.state.shTx = false ∧ p.state.shRx = false
  busAtRest : p.busAtRest

/-- The end of a run is its first end state (R349). -/
def Run.endsAt (r : Run) (n : Nat) : Prop :=
  EndState (r.point n) ∧ ∀ k, k < n → ¬ EndState (r.point k)

end Sys2Proof.Machine
end

