-- ==== Sys2Proof/Safety.lean ====
section
/-! DEFINITION. What counts as a good state: the invariants of the flags (10_state.md R52, R56), of the
sequencer and of the session (R26, R44), and the terms of the statements. -/

namespace Sys2Proof.Machine

/-- The master phases of 10_state.md R52, those with `MSL = 1`. -/
def Phase.isMaster : Phase → Bool
  | .mSb | .mAddr | .mTx | .mRx | .mHalt => true
  | .idle | .sRx | .sTx | .sEnd | .bOther => false

/-- The phases in which `TRA` can be 1 (R56 d). -/
def Phase.mayTransmit : Phase → Bool
  | .mTx | .mHalt | .sTx | .sEnd => true
  | .idle | .mSb | .mAddr | .mRx | .sRx | .bOther => false

/-- The phases in which `SH_TX` can be 1 (R56 b). -/
def Phase.mayShiftOut : Phase → Bool
  | .mAddr | .mTx | .sTx => true
  | .idle | .mSb | .mRx | .mHalt | .sRx | .sEnd | .bOther => false

/-- The invariants of the flags and of the hidden wire-engine state: R52 (`MSL`, `BUSY`), R56 (a) to
(f), R51 (`SH_TX` and `SH_RX` never both), R37 and R53, with what their induction needs. -/
structure FlagInv (s : State) : Prop where
  /-- R52: `MSL = 1` exactly in the five `M_` phases. -/
  msl : s.msl = s.phase.isMaster
  /-- R52: `BUSY = 0` exactly in `IDLE`. -/
  busy : s.busy = false ↔ s.phase = .idle
  /-- R56 (a). -/
  sb : s.sb = true ↔ s.phase = .mSb
  /-- R56 (b), first half. -/
  shTxAddr : s.phase = .mAddr → s.shTx = true
  /-- R56 (b), second half. -/
  shTxPhase : s.shTx = true → s.phase.mayShiftOut = true
  /-- R56 (c). -/
  shRx : s.shRx = true → s.rxne = true ∧ s.btf = true
  /-- R56 (d). -/
  traPhase : s.tra = true → s.phase.mayTransmit = true
  /-- A transmitter data phase has `TRA = 1` (41_wire_engine.md R168, R176). -/
  traTx : s.phase = .mTx ∨ s.phase = .sTx → s.tra = true
  /-- R56 (e). -/
  txe : s.txe = true → s.tra = true ∧ s.addr = false
  /-- R56 (f). -/
  btf : s.tra = true → s.btf = true → s.txe = true ∧ s.shTx = false
  /-- R51. -/
  shExcl : s.shTx = true → s.shRx = false
  /-- A waiting received unit is a receiver's. -/
  shRxTra : s.shRx = true → s.tra = false
  /-- `BTF` is clear while the address phase is on the wire (R34). -/
  btfAddr : s.phase = .mAddr → s.btf = false
  /-- After a NACK nothing is to be sent (41_wire_engine.md R170). -/
  haltTxe : s.phase = .mHalt ∨ s.phase = .sEnd → s.txe = false
  /-- A transmitter halted by a NACK has no address flag (R170). -/
  haltAddr : s.phase = .mHalt ∨ s.phase = .sEnd → s.tra = true → s.addr = false
  /-- R53: `NACKED` belongs to `M_RX`. -/
  nacked : s.nacked = true → s.phase = .mRx
  /-- R37: `ADDR_RD` is cleared with `ADDR`. -/
  addrRd : s.addrRd = true → s.addr = true

/-- The labels of `MSEND` (42_blocking_engine.md R202). -/
def BStep.ofMsend : BStep → Bool
  | .t0 | .t1 | .t2 | .t3 | .t4 | .t5 | .t6 | .t7 | .t8 => true
  | .v0 | .v1 | .v2 | .v3 | .v4 | .v5 | .v6 | .v7 | .v8 | .v9 | .v10 | .v11 | .v12 | .v12b | .v13 => false

/-- What `W_LEN` is at a label of a blocking operation (R202, R204). -/
def BStep.lenOk (b : BStep) (len : Word) : Prop :=
  match b with
  | .t5 | .t7 | .t8 | .v11 => True
  | .t0 | .t1 | .t2 | .t3 | .t4 | .t6 | .v0 | .v1 | .v2 | .v3 | .v4 | .v12 | .v13 => len ≠ 0
  | .v5 | .v6 | .v7 | .v8 | .v9 => len = 1
  | .v10 => len ≠ 0 ∧ len ≠ 1
  | .v12b => len = 2

/-- The positions that belong to the dispatcher of an interrupt line. -/
def DStep.belongsTo : DStep → IrqLine → Bool
  | .exit, _ => true
  | .err _ _, .er => true
  | .err _ _, .ev => false
  | .e0, l | .e0a, l | .e1, l | .e1a, l | .e2, l | .e2s1, l | .e2s2, l | .e2s3, l | .e3, l
  | .e3s1, l | .e3s2, l | .e4, l | .e4s1, l | .e4s2, l | .e4s3, l | .e4s4, l | .e4s5, l
  | .e4slave, l | .e5, l | .e5master, l | .e5slave, l => l == .ev

/-- The positions at which a dispatcher resumes after a callback: the start of a check, or the exit. -/
def DStep.resumes : DStep → Bool
  | .e3 | .e4 | .e5 | .exit => true
  | .err _ sub => sub == .check
  | .e0 | .e0a | .e1 | .e1a | .e2 | .e2s1 | .e2s2 | .e2s3 | .e3s1 | .e3s2 | .e4s1 | .e4s2 | .e4s3
  | .e4s4 | .e4s5 | .e4slave | .e5master | .e5slave => false

/-- What the session is while the event dispatcher is between the guard and the actions of a check
(44_dispatcher.md R250, R253, R255). -/
def DStep.sessionOk (d : DStep) (role : Role) (remain : Word) : Prop :=
  match d with
  | .e2s1 | .e2s2 => role = .busyTx ∧ remain = 0
  | .e4s1 | .e4s2 => role = .busyRx ∧ remain ≠ 0
  | .e4s3 | .e4s4 => role = .busyRx ∧ remain = 0
  | .e5master => role = .busyTx ∧ remain ≠ 0
  | .e0 | .e0a | .e1 | .e1a | .e2 | .e2s3 | .e3 | .e3s1 | .e3s2 | .e4 | .e4s5 | .e4slave | .e5
  | .e5slave | .err _ _ | .exit => True

/-- The positions between E4.2 and `CLOSE`, where a receive session has no unit left (log 16). -/
def DStep.closesReceive : DStep → Bool
  | .e4s3 | .e4s4 => true
  | .e0 | .e0a | .e1 | .e1a | .e2 | .e2s1 | .e2s2 | .e2s3 | .e3 | .e3s1 | .e3s2 | .e4 | .e4s1 | .e4s2
  | .e4s5 | .e4slave | .e5 | .e5master | .e5slave | .err _ _ | .exit => false

/-- The invariants of the sequencer (10_state.md R44, R46; 42_blocking_engine.md R200) and of the session
(R26). -/
structure SeqInv (s : State) : Prop where
  /-- R44: `CBW` can be 1 only in `S_EV` or `S_ER`. -/
  cbwMode : s.cbw = true → s.seqMode = .ev ∨ s.seqMode = .er
  /-- R297: `cb_valid` is high exactly while SEQ waits. -/
  cbValid : s.cbValid = s.cbw
  /-- A callback is the last action of a check (R250 to R258). -/
  cbwPos : s.cbw = true → s.dpc.resumes = true
  /-- R46: `BPC` is at a label of the running operation. -/
  blkPos : s.seqMode = .blk → (s.bpc.ofMsend = true ↔ s.bop = .msend)
  /-- R200: the session stays `READY` throughout a blocking operation. -/
  blkRole : s.seqMode = .blk → s.role = .ready
  /-- R89: `W_LEN` is decremented only where it is greater than 0. -/
  blkLen : s.seqMode = .blk → s.bpc.lenOk s.wLen
  /-- R46: `DPC` is at a position of the running dispatcher. -/
  evPos : s.seqMode = .ev → s.dpc.belongsTo .ev = true
  /-- R46. -/
  erPos : s.seqMode = .er → s.dpc.belongsTo .er = true
  /-- R26 (a). -/
  readySession : s.role = .ready → s.remain = 0 ∧ s.cursor = 0 ∧ s.taddr = 0 ∧ s.rs = false
  /-- R26 (c), between the checks (log 16). -/
  rxRemain : s.role = .busyRx → s.remain ≠ 0 ∨ (s.seqMode = .ev ∧ s.dpc.closesReceive = true)
  /-- What a check's guard established still holds at its actions. -/
  evSession : s.seqMode = .ev → s.dpc.sessionOk s.role s.remain

/-- A blocking operation at a spin whose condition is false (42_blocking_engine.md R205). -/
def State.spinning (s : State) : Prop :=
  s.seqMode = .blk ∧ match s.bpc with
    | .t1 | .v2 => s.sb = false
    | .t3 | .v4 => s.addr = false ∨ s.wFailed = true
    | .t5 => s.wLen ≠ 0 ∧ (s.txe = false ∨ s.wFailed = true)
    | .t7 => s.txe = false ∨ s.btf = false ∨ s.wFailed = true
    | .v8 => s.rxne = false ∨ s.wFailed = true
    | .v11 => s.wLen ≠ 0 ∧ (s.rxne = false ∨ s.wFailed = true)
    | .t0 | .t2 | .t4 | .t6 | .t8 | .v0 | .v1 | .v3 | .v5 | .v6 | .v7 | .v9 | .v10 | .v12 | .v12b
    | .v13 => False

/-- A blocking operation at a spin on a flag of its transfer (R202, R204). -/
abbrev State.atTransferSpin (s : State) : Prop :=
  s.seqMode = .blk ∧ s.cbw = false ∧ (s.bpc = .t3 ∨ s.bpc = .v4 ∨ s.bpc = .t7 ∨ s.bpc = .v8 ∨
    ((s.bpc = .t5 ∨ s.bpc = .v11) ∧ s.wLen ≠ 0))

/-- A blocking operation whose transfer ended in a NACK or a lost arbitration, at a spin on a flag of that transfer
(R202, R205). -/
def State.hung (s : State) : Prop := s.atTransferSpin ∧ s.wFailed = true

/-! ### Terms of the statements -/

/-- In `s`, with `m` as the next move, one step answers `t`. -/
abbrev Runs (m : Move) (s t : State) : Prop := step (s.offer m) = .next t

/-- `s` after `illegal()` for the command word `w`, written out (30_encoding.md R112). -/
def State.afterIllegal (s : State) (w : Word) : State :=
  { s with resVal := 0, resSt := 1, trace := s.trace ++ [.op (.illegal w)] }

/-- When an operation is legal: the contexts of 30_encoding.md R114 and the "Errors" of each operation's own
rule. -/
def legalIn (i : Instr) (s : State) : Prop :=
  match i with
  | .pClkEn => s.seqMode = .idle ∨ s.cbw = true
  | .pClkDis => (s.seqMode = .idle ∨ s.cbw = true) ∧ s.clken = true ∧ s.pe = false
  | .pPeDis =>
    (s.seqMode = .idle ∨ s.cbw = true) ∧ s.clken = true ∧ s.phase = .idle ∧ s.role = .ready
  | .pPeEn | .pAckEn | .pAckDis | .pStartReq | .pStopReq | .pAddrW _ | .pAddrR _ | .pReadUnit
  | .pWriteUnit _ | .pClearAddr | .pClearStopf | .setCb _ | .srecv | .ssend _ =>
    (s.seqMode = .idle ∨ s.cbw = true) ∧ s.clken = true
  | .init _ _ _ _ => s.seqMode = .idle ∧ s.pe = false ∧ s.role = .ready
  | .msend _ _ | .mrecv _ _ => s.seqMode = .idle ∧ s.clken = true ∧ s.opLen ≠ 0
  | .msendA _ _ | .mrecvA _ _ =>
    (s.seqMode = .idle ∨ s.cbw = true) ∧ s.clken = true ∧ s.opLen ≠ 0
  | .evdisp | .erdisp => s.seqMode = .idle ∧ s.clken = true

/-- The two arming operations, the only ones that write the session (43_async_engine.md R225). -/
def armsSession : Instr → Bool
  | .msendA _ _ | .mrecvA _ _ => true
  | .pClkEn | .pClkDis | .pPeEn | .pPeDis | .pAckEn | .pAckDis | .pStartReq | .pStopReq
  | .pAddrW _ | .pAddrR _ | .pReadUnit | .pWriteUnit _ | .pClearAddr | .pClearStopf
  | .init _ _ _ _ | .setCb _ | .msend _ _ | .mrecv _ _ | .srecv | .ssend _ | .evdisp | .erdisp => false

/-- The operations after which SEQ runs: the blocking transfers and the dispatchers. -/
def startsSeq : Instr → Bool
  | .msend _ _ | .mrecv _ _ | .evdisp | .erdisp => true
  | .pClkEn | .pClkDis | .pPeEn | .pPeDis | .pAckEn | .pAckDis | .pStartReq | .pStopReq
  | .pAddrW _ | .pAddrR _ | .pReadUnit | .pWriteUnit _ | .pClearAddr | .pClearStopf
  | .init _ _ _ _ | .setCb _ | .msendA _ _ | .mrecvA _ _ | .srecv | .ssend _ => false

/-- The operations that access the data register (10_state.md R33, R34). -/
def touchesData : Instr → Bool
  | .pAddrW _ | .pAddrR _ | .pReadUnit | .pWriteUnit _ | .srecv | .ssend _ => true
  | .pClkEn | .pClkDis | .pPeEn | .pPeDis | .pAckEn | .pAckDis | .pStartReq | .pStopReq
  | .pClearAddr | .pClearStopf | .init _ _ _ _ | .setCb _ | .msend _ _ | .mrecv _ _ | .msendA _ _
  | .mrecvA _ _ | .evdisp | .erdisp => false

/-- The session registers (10_state.md R21 to R25) are the same. -/
structure SameSession (s t : State) : Prop where
  role : t.role = s.role
  cursor : t.cursor = s.cursor
  remain : t.remain = s.remain
  taddr : t.taddr = s.taddr
  rs : t.rs = s.rs

/-- The interrupt enables (R30) are the same. -/
structure SameEnables (s t : State) : Prop where
  iterren : t.iterren = s.iterren
  itevten : t.itevten = s.itevten
  itbufen : t.itbufen = s.itbufen

/-- The bus configuration (R28, R31, R32) is the same. -/
structure SameConfig (s t : State) : Prop where
  fs : t.fs = s.fs
  duty : t.duty = s.duty
  own : t.own = s.own

/-- The five error flags (R42) are the same. -/
structure SameErrors (s t : State) : Prop where
  berr : t.berr = s.berr
  arlo : t.arlo = s.arlo
  af : t.af = s.af
  ovr : t.ovr = s.ovr
  timeout : t.timeout = s.timeout

/-- The data register, the shift register and what they hold (R33, R51) are the same. -/
structure SameData (s t : State) : Prop where
  dr : t.dr = s.dr
  shift : t.shift = s.shift
  shTx : t.shTx = s.shTx
  shRx : t.shRx = s.shRx

/-- The sequencer (R44 to R46) is the same. -/
structure SameSeq (s t : State) : Prop where
  seqMode : t.seqMode = s.seqMode
  cbw : t.cbw = s.cbw
  bop : t.bop = s.bop
  bpc : t.bpc = s.bpc
  dpc : t.dpc = s.dpc
  wCur : t.wCur = s.wCur
  wLen : t.wLen = s.wLen
  wAddr : t.wAddr = s.wAddr
  wRs : t.wRs = s.wRs

/-- The command port (R47) is the same. -/
structure SameCommand (s t : State) : Prop where
  opBuf : t.opBuf = s.opBuf
  opLen : t.opLen = s.opLen
  cmd : t.cmd = s.cmd
  resVal : t.resVal = s.resVal
  resSt : t.resSt = s.resSt

/-- The callback's attachment and port (R49, R57) are the same. -/
structure SameCallback (s t : State) : Prop where
  cbEn : t.cbEn = s.cbEn
  cbValid : t.cbValid = s.cbValid
  cbCode : t.cbCode = s.cbCode

/-- Every unit of buffer memory reads the same. -/
def SameMemory (s t : State) : Prop := ∀ a : Word, t.memAt a = s.memAt a

/-- A record of the wire engine (10_state.md R50). -/
def Rec.isWire : Rec → Bool
  | .wire _ => true
  | .op _ | .prim _ | .drr _ | .drw _ | .memr _ _ | .memw _ _ | .close | .cb _ | .clr _ => false

/-- The bit of an error flag in `SR1` (10_state.md R35). -/
def errBit : ErrFlag → Nat
  | .berr => 8
  | .arlo => 9
  | .af => 10
  | .ovr => 11
  | .timeout => 14

/-- `INIT`. -/
def isInit : Instr → Bool
  | .init _ _ _ _ => true
  | .pClkEn | .pClkDis | .pPeEn | .pPeDis | .pAckEn | .pAckDis | .pStartReq | .pStopReq
  | .pAddrW _ | .pAddrR _ | .pReadUnit | .pWriteUnit _ | .pClearAddr | .pClearStopf
  | .setCb _ | .msend _ _ | .mrecv _ _ | .msendA _ _ | .mrecvA _ _ | .srecv | .ssend _ | .evdisp
  | .erdisp => false

/-- `SET_CB`. -/
def isSetCb : Instr → Bool
  | .setCb _ => true
  | .pClkEn | .pClkDis | .pPeEn | .pPeDis | .pAckEn | .pAckDis | .pStartReq | .pStopReq
  | .pAddrW _ | .pAddrR _ | .pReadUnit | .pWriteUnit _ | .pClearAddr | .pClearStopf
  | .init _ _ _ _ | .msend _ _ | .mrecv _ _ | .msendA _ _ | .mrecvA _ _ | .srecv | .ssend _
  | .evdisp | .erdisp => false

end Sys2Proof.Machine
end

