-- ==== Sys2Proof/Certificates/Slice0/Obligations.lean ====
section
/-! DEFINITION. The statements about MGC-I2C. `Runs m s t` says that one step with `m` as the next move
leads from `s` to `t`; a state written out as an update says that every other field is unchanged. -/

open Sys2Proof Sys2Proof.Machine

/-! ### Encoding -/

/-- No bit of an encoding is dropped (30_encoding.md section 2). -/
def Obligations.DecodeOfEncodeIsTheInstruction : Prop :=
  ∀ i : Instr, decode (encode i) = .ok i

/-- Each word has one meaning (30_encoding.md section 2). -/
def Obligations.EncodeOfDecodeIsTheWord : Prop :=
  ∀ (w : Word) (i : Instr), decode w = .ok i → encode i = w

/-- The decoder is the opcode map and the rows are disjoint (30_encoding.md section 2). -/
def Obligations.DecodeFollowsTheOpcodeMap : Prop :=
  (∀ (w : Word) (i : Instr), decode w = .ok i →
    i.row ∈ opcodeMap ∧ i.row.matchesWord w = true) ∧
  (∀ (w : Word) (r : OpcodeRow), r ∈ opcodeMap → r.matchesWord w = true →
    ∃ i : Instr, decode w = .ok i ∧ i.row = r) ∧
  (∀ (w : Word) (r r' : OpcodeRow), r ∈ opcodeMap → r' ∈ opcodeMap →
    r.matchesWord w = true → r'.matchesWord w = true → r = r')

/-- The reserved words, and that each of them is illegal (30_encoding.md section 5). That it is so with `CLKEN = 0`
too, where 20_memory.md R77 (a) says that a `CMD` write is ignored, is the model's reading (log 5). -/
def Obligations.ReservedWordsAreIllegal : Prop :=
  (∀ w : Word, (fieldOpc w = 0x00 ∨ fieldOpc w = 0x0F ∨ 0x1A ≤ (fieldOpc w).toNat) →
    decode w = .error .reservedOpcode) ∧
  (∀ (w : Word) (r : OpcodeRow), r ∈ opcodeMap → fieldOpc w = r.mtch.setWidth 8 →
    r.matchesWord w = false → decode w = .error .reservedBits) ∧
  (∀ (s : State) (w : Word) (e : DecodeError), s.hostReady → decode w = .error e →
    Runs (cmdMove w) s ({ s with cmd := w }.afterIllegal w))

/-- Words written out from the encodings (95_test_vectors.md section 2.1). -/
def Obligations.WordsDecodeAsWrittenOut : Prop :=
  decode 0x00000001 = .ok .pClkEn ∧ decode 0x00006809 = .ok (.pAddrW 0x68) ∧
  decode 0x0000680A = .ok (.pAddrR 0x68) ∧ decode 0x0000FF0C = .ok (.pWriteUnit 0xFF) ∧
  decode 0x00044210 = .ok (.init 0x42 false false true) ∧
  decode 0x00077F10 = .ok (.init 0x7F true true true) ∧
  decode 0x00000111 = .ok (.setCb true) ∧ decode 0x00006812 = .ok (.msend 0x68 false) ∧
  decode 0x00016813 = .ok (.mrecv 0x68 true) ∧ decode 0x00006814 = .ok (.msendA 0x68 false) ∧
  decode 0x00017F15 = .ok (.mrecvA 0x7F true) ∧ decode 0x0000AA17 = .ok (.ssend 0xAA) ∧
  decode 0x00000018 = .ok .evdisp ∧ decode 0x00000019 = .ok .erdisp ∧
  decode 0x00008009 = .error .reservedBits ∧ decode 0x00020012 = .error .reservedBits ∧
  decode 0x0000001A = .error .reservedOpcode

/-- The address-phase byte, built and taken apart (30_encoding.md section 3). That a 1 is the read direction is
marked by the spec as general knowledge (R105, N4; log 18). -/
def Obligations.AddressByteIsShiftedAddressWithDirection : Prop :=
  (∀ (a : Addr7) (rw : Bool),
    addrByte a rw = (a.setWidth 8 <<< 1) ||| (if rw then 1 else 0) ∧
    (addrByte a rw).extractLsb' 1 7 = a ∧ (addrByte a rw).getLsbD 0 = rw) ∧
  addrByte 0x68 false = 0xD0 ∧ addrByte 0x68 true = 0xD1

/-! ### The step -/

/-- A step performs the next move of the schedule (log 1); a `CMD` write whose word decodes runs that
operation (20_memory.md section 4), with `CLKEN = 0` too, where R77 (a) says that most such writes are ignored
(log 5); how a program is placed is the model's choice (log 3). -/
def Obligations.StepRunsTheDecodedCommand : Prop :=
  (∀ (s : State) (m : Move) (rest : List Move), s.schedule = m :: rest →
    step s = perform m { s with schedule := rest }) ∧
  (∀ s : State, s.schedule = [] →
    step s = perform (Config.freeMove s.tick) { s with tick := s.tick + 1 }) ∧
  (∀ (s : State) (w : Word) (i : Instr), s.hostReady → decode w = .ok i →
    step (s.offer (cmdMove w)) = exec i { s with cmd := w }) ∧
  (∀ (s : State) (w : Nat) (i : Instr), w < 2 ^ 32 → decodeTableWord 32 w = some i →
    step (s.withFetchWord 32 w) = exec i { s.makeReady with cmd := BitVec.ofNat 32 w })

/-- No step is a fault or a refusal: the block has no fault mechanism and every illegal operation has a
defined reaction (60_exceptions.md section 1, 93_implementation_defined.md part 1). That the model takes that reaction,
where R112 and R81 advise a model to refuse, is its own reading (log 4, log 13). -/
def Obligations.EveryStepAnswersANextState : Prop :=
  ∀ s : State, ∃ t : State, step s = .next t

/-- While a blocking operation runs HOST's accesses do not complete and no dispatcher is entered; at a spin whose
condition is false SEQ changes nothing; a NACK or a lost arbitration at a spin on a flag of its transfer leaves the operation
hung; and a hung operation stays hung: only reset ends it (42_blocking_engine.md sections 1, 2 and 4). That no other setter
of the flag ends these spins then is the model's reading, kept in its own field `wFailed` (log 22). -/
def Obligations.BlockingOperationHoldsHost : Prop :=
  (∀ s : State, s.seqMode = .blk → s.cbw = false →
    (∀ (width : PortWidth) (off : Offset), Runs (.host (.portRead width off)) s s) ∧
    (∀ (width : PortWidth) (off : Offset) (w : Word), Runs (.host (.portWrite width off w)) s s) ∧
    (∀ l : IrqLine, Runs (.pulse l) s s) ∧ (s.spinning → Runs .seq s s)) ∧
  (∀ s t : State, s.clken = true → s.pe = true → s.atTransferSpin →
    ((s.phase = .mAddr → Runs (.wire (.addrResult .nack)) s t → t.hung) ∧
    (s.phase = .mTx → s.msl = true → s.addr = false → s.shTx = true →
      Runs (.wire (.txByte .nack)) s t → t.hung) ∧
    (s.msl = true → (s.phase = .mAddr ∨ (s.phase = .mTx ∧ s.addr = false ∧ s.shTx = true)) →
      Runs (.wire .arlo) s t → t.hung))) ∧
  ∀ s t : State, s.hung → step s = .next t → nextMove s ≠ .reset → t.hung

/-! ### Operations -/

/-- The clock gate's two operations (40_primitives.md sections 1 and 2). -/
def Obligations.ClockGateOperationsTakeEffect : Prop :=
  encode .pClkEn = 0x01 ∧ encode .pClkDis = 0x02 ∧
  ∀ s : State, (s.seqMode = .idle ∨ s.cbw = true) →
    exec .pClkEn s = .next { s with clken := true, resVal := 0, resSt := 0, trace := s.trace ++ [.prim .clkEn] } ∧
    (s.clken = true → s.pe = false →
      exec .pClkDis s =
        .next { s with clken := false, resVal := 0, resSt := 0, trace := s.trace ++ [.prim .clkDis] }) ∧
    ((s.clken = false ∨ s.pe = true) → exec .pClkDis s = .next (s.afterIllegal 0x02))

/-- Peripheral enable and disable (40_primitives.md section 2). -/
def Obligations.PeripheralEnableOperationsTakeEffect : Prop :=
  ∀ s : State, (s.seqMode = .idle ∨ s.cbw = true) → s.clken = true →
    exec .pPeEn s = .next { s with pe := true, resVal := 0, resSt := 0, trace := s.trace ++ [.prim .peEn] } ∧
    (s.phase = .idle → s.role = .ready →
      exec .pPeDis s = .next { s with pe := false, start := false, stop := false, resVal := 0, resSt := 0,
                                      trace := s.trace ++ [.prim .peDis] }) ∧
    ((s.phase ≠ .idle ∨ s.role ≠ .ready) → exec .pPeDis s = .next (s.afterIllegal 0x04))

/-- ACK policy, start and stop requests (40_primitives.md sections 3 and 4). -/
def Obligations.AckPolicyAndBusRequestsTakeEffect : Prop :=
  ∀ s : State, (s.seqMode = .idle ∨ s.cbw = true) → s.clken = true →
    exec .pAckEn s = .next { s with ack := true, resVal := 0, resSt := 0, trace := s.trace ++ [.prim .ackEn] } ∧
    exec .pAckDis s = .next { s with ack := false, resVal := 0, resSt := 0, trace := s.trace ++ [.prim .ackDis] } ∧
    exec .pStartReq s =
      .next { s with start := true, resVal := 0, resSt := 0, trace := s.trace ++ [.prim .startReq] } ∧
    exec .pStopReq s =
      .next { s with stop := true, resVal := 0, resSt := 0, trace := s.trace ++ [.prim .stopReq] }

/-- Every operation that writes the data register performs `DR_WRITE` of its value (40_primitives.md sections 5
and 6, 45_slave_and_system.md section 2). What `DR_WRITE` does: `DataRegisterWriteHasThreeBranches`. That the
record of `P_WRITE_UNIT` and of `SSEND` comes before the `DRW` record is the model's reading (log 14). -/
def Obligations.DataRegisterWriteOperationsTakeEffect : Prop :=
  ∀ s : State, (s.seqMode = .idle ∨ s.cbw = true) → s.clken = true →
    (∀ a : Addr7, exec (.pAddrW a) s =
      .next { drWrite (addrByte a false) { s with trace := s.trace ++ [.prim (.addrW a)] } with
        resVal := 0, resSt := 0 }) ∧
    (∀ a : Addr7, exec (.pAddrR a) s =
      .next { drWrite (addrByte a true) { s with trace := s.trace ++ [.prim (.addrR a)] } with
        resVal := 0, resSt := 0 }) ∧
    (∀ d : Byte, exec (.pWriteUnit d) s =
      .next { drWrite d { s with trace := s.trace ++ [.prim (.writeUnit d)] } with resVal := 0, resSt := 0 }) ∧
    (∀ d : Byte, exec (.ssend d) s =
      .next { drWrite d { s with trace := s.trace ++ [.op (.ssend d)] } with resVal := 0, resSt := 0 }) ∧
    (∀ w : Word, Runs (.host (.portWrite .word 0x10 w)) s (drWrite (w.extractLsb' 0 8) s))

/-- The branches of `DR_WRITE` (10_state.md section 5). -/
def Obligations.DataRegisterWriteHasThreeBranches : Prop :=
  ∀ (v : Byte) (s : State),
    (s.sb = true →
      drWrite v s = { s with dr := v, sb := false, shift := v, shTx := true, shRx := false, btf := false,
                             phase := .mAddr, trace := s.trace ++ [.drw v] }) ∧
    (s.sb = false → s.tra = true → (s.phase = .mTx ∨ s.phase = .sTx) → s.addr = false →
      (s.shTx = false →
        drWrite v s = { s with dr := v, btf := false, shift := v, shTx := true, txe := true,
                               trace := s.trace ++ [.drw v] }) ∧
      (s.shTx = true →
        drWrite v s = { s with dr := v, btf := false, txe := false, trace := s.trace ++ [.drw v] })) ∧
    (s.sb = false → (s.tra = false ∨ (s.phase ≠ .mTx ∧ s.phase ≠ .sTx) ∨ s.addr = true) →
      drWrite v s = { s with dr := v, trace := s.trace ++ [.drw v] })

/-- A read of the data register by an operation or through the register port (10_state.md section 5,
40_primitives.md section 6, 45_slave_and_system.md section 2). The order of the records (log 14) and that the port
read acts with the clock gated too (log 21) are the model's readings. -/
def Obligations.DataRegisterReadOperationsTakeEffect : Prop :=
  ∀ s : State, (s.seqMode = .idle ∨ s.cbw = true) →
    (s.clken = true →
      exec .pReadUnit s = .next { s with
        dr := if s.shRx then s.shift else s.dr, shRx := false,
        btf := if s.shRx then false else s.btf, rxne := if s.shRx then s.rxne else false,
        resVal := s.dr, resSt := 0, trace := s.trace ++ [.prim .readUnit, .drr s.dr] } ∧
      exec .srecv s = .next { s with
        dr := if s.shRx then s.shift else s.dr, shRx := false,
        btf := if s.shRx then false else s.btf, rxne := if s.shRx then s.rxne else false,
        resVal := s.dr, resSt := 0, trace := s.trace ++ [.op .srecv, .drr s.dr] }) ∧
    Runs (.host (.portRead .word 0x10)) s { s with
      dr := if s.shRx then s.shift else s.dr, shRx := false,
      btf := if s.shRx then false else s.btf, rxne := if s.shRx then s.rxne else false,
      rdata := s.dr.setWidth 32, trace := s.trace ++ [.drr s.dr] }

/-- The address-flag clear with its ACK rule (40_primitives.md section 7). -/
def Obligations.ClearAddressFlagAppliesTheAckRule : Prop :=
  ∀ s : State, (s.seqMode = .idle ∨ s.cbw = true) → s.clken = true →
    (s.role = .busyRx → s.remain = 1 →
      exec .pClearAddr s = .next { s with
        ack := false, addr := false, addrRd := if s.addr then false else s.addrRd,
        txe := if s.addr && s.tra then true else s.txe, resVal := 0, resSt := 0,
        trace := s.trace ++ [.prim .ackDis, .prim .clearAddr] }) ∧
    ((s.role ≠ .busyRx ∨ s.remain ≠ 1) →
      exec .pClearAddr s = .next { s with
        addr := false, addrRd := if s.addr then false else s.addrRd,
        txe := if s.addr && s.tra then true else s.txe, resVal := 0, resSt := 0,
        trace := s.trace ++ [.prim .clearAddr] })

/-- 40_primitives.md R143. -/
def Obligations.ClearStopFlagTouchesNoOtherFlag : Prop :=
  encode .pClearStopf = 0x0E ∧
  ∀ s : State, (s.seqMode = .idle ∨ s.cbw = true) →
    (s.clken = true →
      ∃ t : State, exec .pClearStopf s = .next t ∧
        t = { s with stopf := false, resVal := 0, resSt := 0, trace := s.trace ++ [.prim .clearStopf] } ∧
        (s.sb = false → s.addr = false → s.btf = false → s.rxne = false → s.txe = false →
          t.irqEv = false)) ∧
    (s.clken = false → exec .pClearStopf s = .next (s.afterIllegal 0x0E))

/-- 45_slave_and_system.md R270. -/
def Obligations.InitWritesTheConfiguration : Prop :=
  (∀ (s : State) (own : Addr7) (fs duty ackp : Bool),
    (s.seqMode = .idle → s.pe = false → s.role = .ready →
      exec (.init own fs duty ackp) s = .next { s with
        clken := true, fs := fs, duty := duty, own := own, ack := ackp, resVal := 0, resSt := 0,
        trace := s.trace ++ [.op (.init own fs duty ackp)] }) ∧
    ((s.seqMode ≠ .idle ∨ s.pe = true ∨ s.role ≠ .ready) →
      exec (.init own fs duty ackp) s = .next (s.afterIllegal (encode (.init own fs duty ackp))))) ∧
  encode (.init 0x42 false false true) = 0x00044210 ∧
  ∃ t : State, exec (.init 0x42 false false true) State.reset = .next t ∧ t.clken = true ∧
    t.oarWord = 0x84 ∧ t.cfgWord = 0 ∧ t.ctrlWord = 0x400

/-- 45_slave_and_system.md R272. -/
def Obligations.SetCallbackAttachesTheHandler : Prop :=
  encode (.setCb true) = 0x00000111 ∧
  ∀ (s : State) (en : Bool), (s.seqMode = .idle ∨ s.cbw = true) →
    (s.clken = true →
      exec (.setCb en) s = .next { s with
        cbEn := en, resVal := 0, resSt := 0, trace := s.trace ++ [.op (.setCb en)] }) ∧
    (s.clken = false → exec (.setCb en) s = .next (s.afterIllegal (encode (.setCb en))))

/-- Acceptance and rejection of a blocking transfer (42_blocking_engine.md section 1). -/
def Obligations.BlockingTransferIsAcceptedOrRejected : Prop :=
  ∀ (s : State) (a : Addr7) (rs : Bool), s.seqMode = .idle → s.clken = true → s.opLen ≠ 0 →
    (s.role = .ready →
      exec (.msend a rs) s = .next { s with
        wCur := s.opBuf, wLen := s.opLen, wAddr := a, wRs := rs, bop := .msend, bpc := .t0, seqMode := .blk,
        trace := s.trace ++ [.op (.transfer .msend s.opBuf s.opLen a rs)] } ∧
      exec (.mrecv a rs) s = .next { s with
        wCur := s.opBuf, wLen := s.opLen, wAddr := a, wRs := rs, bop := .mrecv, bpc := .v0, seqMode := .blk,
        trace := s.trace ++ [.op (.transfer .mrecv s.opBuf s.opLen a rs)] }) ∧
    (s.role ≠ .ready →
      exec (.msend a rs) s = .next { s with
        resVal := if s.role = .busyRx then 1 else 2, resSt := 0,
        trace := s.trace ++ [.op (.transfer .msend s.opBuf s.opLen a rs)] } ∧
      exec (.mrecv a rs) s = .next { s with
        resVal := if s.role = .busyRx then 1 else 2, resSt := 0,
        trace := s.trace ++ [.op (.transfer .mrecv s.opBuf s.opLen a rs)] })

/-- 43_async_engine.md R221, R222: arming, and the rejection that mutates nothing. -/
def Obligations.ArmingIsAcceptedOnlyWhileReady : Prop :=
  ∀ (s : State) (a : Addr7) (rs : Bool),
    ((s.seqMode = .idle ∨ s.cbw = true) → s.clken = true → s.opLen ≠ 0 →
      (s.role = .ready →
        exec (.msendA a rs) s = .next { s with
          cursor := s.opBuf, remain := s.opLen, taddr := a, rs := rs, role := .busyTx,
          itbufen := true, itevten := true, iterren := true, start := true, resVal := 0, resSt := 0,
          trace := s.trace ++ [.op (.transfer .msendA s.opBuf s.opLen a rs), .prim .startReq] } ∧
        exec (.mrecvA a rs) s = .next { s with
          cursor := s.opBuf, remain := s.opLen, taddr := a, rs := rs, role := .busyRx,
          itbufen := true, itevten := true, iterren := true, ack := true, start := true,
          resVal := 0, resSt := 0,
          trace := s.trace ++
            [.op (.transfer .mrecvA s.opBuf s.opLen a rs), .prim .ackEn, .prim .startReq] }) ∧
      (s.role ≠ .ready →
        exec (.msendA a rs) s = .next { s with
          resVal := if s.role = .busyRx then 1 else 2, resSt := 0,
          trace := s.trace ++ [.op (.transfer .msendA s.opBuf s.opLen a rs)] } ∧
        exec (.mrecvA a rs) s = .next { s with
          resVal := if s.role = .busyRx then 1 else 2, resSt := 0,
          trace := s.trace ++ [.op (.transfer .mrecvA s.opBuf s.opLen a rs)] })) ∧
    ((s.clken = false ∨ s.opLen = 0) →
      exec (.msendA a rs) s = .next (s.afterIllegal (encode (.msendA a rs))) ∧
      exec (.mrecvA a rs) s = .next (s.afterIllegal (encode (.mrecvA a rs)))) ∧
    fieldOpc (encode (.msendA a rs)) = 0x14 ∧ fieldOpc (encode (.mrecvA a rs)) = 0x15

/-- Entering a dispatcher, by command word or by pulse: nothing is saved, nothing is masked
(44_dispatcher.md sections 1 and 3, 60_exceptions.md section 4). -/
def Obligations.DispatcherEntryChangesOnlyThePosition : Prop :=
  ∀ s : State, s.seqMode = .idle → s.clken = true →
    exec .evdisp s = .next { s with seqMode := .ev, dpc := .e0, trace := s.trace ++ [.op .evdisp] } ∧
    exec .erdisp s =
      .next { s with seqMode := .er, dpc := .err .berr .check, trace := s.trace ++ [.op .erdisp] } ∧
    Runs (.pulse .ev) s { s with seqMode := .ev, dpc := .e0, trace := s.trace ++ [.op .evdisp] } ∧
    Runs (.pulse .er) s
      { s with seqMode := .er, dpc := .err .berr .check, trace := s.trace ++ [.op .erdisp] }

/-- 30_encoding.md R113, R114 and each operation's own conditions: outside them an operation that HOST issues
only sets `RESULT` and leaves its record; inside them it is not refused; and where HOST has neither context it
can issue nothing. -/
def Obligations.IllegalOperationOnlySetsResult : Prop :=
  (∀ (i : Instr) (s : State), (s.seqMode = .idle ∨ s.cbw = true) →
    (¬ legalIn i s → exec i s = .next (s.afterIllegal (encode i))) ∧
    (legalIn i s → ∃ t : State, exec i s = .next t ∧
      (Rec.op (.illegal (encode i))) ∉ t.trace.drop s.trace.length)) ∧
  ∀ (s : State) (w : Word), s.seqMode ≠ .idle → s.cbw = false → Runs (cmdMove w) s s

/-- What operations leave unchanged when HOST issues them (files 40, 42, 43, 44 and 45 of the spec). -/
def Obligations.OperationsChangeOnlyTheirOwnState : Prop :=
  ∀ (i : Instr) (s t : State), exec i s = .next t →
    SameMemory s t ∧ SameErrors s t ∧ t.msl = s.msl ∧ t.busy = s.busy ∧ t.tra = s.tra ∧ t.nacked = s.nacked ∧
    t.wFailed = s.wFailed ∧ t.cbValid = s.cbValid ∧ t.cbCode = s.cbCode ∧ t.rdata = s.rdata ∧ t.opBuf = s.opBuf ∧ t.opLen = s.opLen ∧
    t.cmd = s.cmd ∧ t.schedule = s.schedule ∧ t.tick = s.tick ∧
    (armsSession i = false → SameSession s t ∧ SameEnables s t) ∧
    (isInit i = false → SameConfig s t) ∧
    (startsSeq i = false → SameSeq s t) ∧
    (touchesData i = false → SameData s t ∧ t.sb = s.sb ∧ t.btf = s.btf ∧ t.rxne = s.rxne ∧ t.phase = s.phase) ∧
    (isSetCb i = false → t.cbEn = s.cbEn) ∧
    (i ≠ .pClkEn → i ≠ .pClkDis → isInit i = false → t.clken = s.clken) ∧
    (i ≠ .pPeEn → i ≠ .pPeDis → t.pe = s.pe) ∧
    (i ≠ .pPeDis → i ≠ .pStartReq → armsSession i = false → t.start = s.start) ∧
    (i ≠ .pPeDis → i ≠ .pStopReq → t.stop = s.stop) ∧
    (i ≠ .pAckEn → i ≠ .pAckDis → i ≠ .pClearAddr → isInit i = false → armsSession i = false →
      t.ack = s.ack) ∧
    (i ≠ .pClearStopf → t.stopf = s.stopf) ∧
    (i ≠ .pClearAddr → t.addr = s.addr ∧ t.addrRd = s.addrRd) ∧
    (i ≠ .pClearAddr → touchesData i = false → t.txe = s.txe)

/-! ### Wire events -/

/-- The start condition, from a free bus and repeated (41_wire_engine.md section 2). -/
def Obligations.StartConditionIsGenerated : Prop :=
  ∀ s : State, s.clken = true → s.pe = true → s.start = true → ¬ (s.stop = true ∧ s.msl = true) →
    (s.phase = .idle ∨ (s.msl = true ∧ s.quiescent)) →
    Runs (.wire .start) s { s with
      start := false, sb := true, msl := true, busy := true, tra := false, phase := .mSb, txe := false,
      btf := false, nacked := false, shTx := false, shRx := false,
      trace := s.trace ++ [.wire (if s.phase = .idle then .start else .rstart)] }

/-- The stop condition of a master, and a stray stop request (41_wire_engine.md section 2). -/
def Obligations.StopConditionIsGenerated : Prop :=
  ∀ s : State, s.clken = true → s.pe = true → s.stop = true →
    (s.msl = true → s.quiescent →
      Runs (.wire .stop) s { s with
        txe := if s.tra then false else s.txe, btf := if s.tra then false else s.btf,
        shTx := if s.tra then false else s.shTx, stop := false, sb := false, msl := false, busy := false,
        tra := false, phase := .idle, nacked := false, trace := s.trace ++ [.wire .stop] }) ∧
    (s.msl = false → Runs (.wire .stop) s { s with stop := false })

/-- The peer's answer to the address phase (41_wire_engine.md section 3); the model's own `wFailed` notes a NACK
(log 22). -/
def Obligations.AddressPhaseIsAnswered : Prop :=
  ∀ s : State, s.clken = true → s.pe = true → s.phase = .mAddr →
    (s.shift.getLsbD 0 = false →
      Runs (.wire (.addrResult .ack)) s { s with
        shTx := false, addr := true, addrRd := false, nacked := false, tra := true, phase := .mTx,
        trace := s.trace ++ [.wire (.addrByte s.shift .ack)] }) ∧
    (s.shift.getLsbD 0 = true →
      Runs (.wire (.addrResult .ack)) s { s with
        shTx := false, addr := true, addrRd := false, nacked := false, tra := false, phase := .mRx,
        trace := s.trace ++ [.wire (.addrByte s.shift .ack)] }) ∧
    Runs (.wire (.addrResult .nack)) s { s with
      shTx := false, af := true, phase := .mHalt, wFailed := true,
      trace := s.trace ++ [.wire (.addrByte s.shift .nack)] }

/-- The receiver's answer to a unit sent (41_wire_engine.md section 3); the model's own `wFailed` notes a NACK to this
master (log 22). -/
def Obligations.SentUnitIsAnswered : Prop :=
  ∀ s : State, s.clken = true → s.pe = true → (s.phase = .mTx ∨ s.phase = .sTx) → s.addr = false →
    s.shTx = true →
    ((s.msl = true ∧ s.stop = true) →
      Runs (.wire (.txByte .ack)) s { s with
        txe := if s.tra then false else s.txe, btf := if s.tra then false else s.btf,
        shTx := if s.tra then false else s.shTx, stop := false, sb := false, msl := false, busy := false,
        tra := false, phase := .idle, nacked := false,
        trace := s.trace ++ [.wire (.txByte s.shift .ack), .wire .stop] }) ∧
    (s.msl = true → s.stop = false → s.start = true →
      Runs (.wire (.txByte .ack)) s { s with
        start := false, sb := true, msl := true, busy := true, tra := false, phase := .mSb, txe := false,
        btf := false, nacked := false, shTx := false, shRx := false,
        trace := s.trace ++ [.wire (.txByte s.shift .ack), .wire .rstart] }) ∧
    ((s.msl = false ∨ (s.stop = false ∧ s.start = false)) →
      (s.txe = false →
        Runs (.wire (.txByte .ack)) s { s with
          shift := s.dr, txe := true, trace := s.trace ++ [.wire (.txByte s.shift .ack)] }) ∧
      (s.txe = true →
        Runs (.wire (.txByte .ack)) s { s with
          shTx := false, btf := true, trace := s.trace ++ [.wire (.txByte s.shift .ack)] })) ∧
    Runs (.wire (.txByte .nack)) s { s with
      shTx := false, txe := false, af := true, phase := if s.msl then .mHalt else .sEnd,
      wFailed := s.msl || s.wFailed,
      trace := s.trace ++ [.wire (.txByte s.shift .nack)] }

/-- A received unit: where it goes, how it is answered, and the requests it serves (41_wire_engine.md
sections 3 and 5). -/
def Obligations.ReceivedUnitIsKeptAndAnswered : Prop :=
  ∀ (s : State) (b : Byte), s.clken = true → s.pe = true → (s.phase = .mRx ∨ s.phase = .sRx) →
    s.addr = false → s.shRx = false → s.nacked = false →
    ∃ got : State,
      got = { s with
        dr := if s.rxne then s.dr else b, rxne := true, shift := if s.rxne then b else s.shift,
        shRx := s.rxne, btf := s.rxne || s.btf, nacked := s.msl && !s.ack,
        phase := if !s.ack && !s.msl then .sEnd else s.phase,
        trace := s.trace ++ [.wire (.rxByte b (if s.ack then .ack else .nack))] } ∧
      ((s.msl = false ∨ (s.stop = false ∧ s.start = false)) → Runs (.wire (.rxByte b)) s got) ∧
      (s.msl = true → s.stop = true →
        Runs (.wire (.rxByte b)) s { got with
          txe := if s.tra then false else s.txe, btf := if s.tra then false else got.btf,
          shTx := if s.tra then false else s.shTx, stop := false, sb := false, msl := false,
          busy := false, tra := false, phase := .idle, nacked := false,
          trace := got.trace ++ [.wire .stop] }) ∧
      (s.msl = true → s.stop = false → s.start = true →
        Runs (.wire (.rxByte b)) s { got with
          start := false, sb := true, msl := true, busy := true, tra := false, phase := .mSb, txe := false,
          btf := false, nacked := false, shTx := false, shRx := false,
          trace := got.trace ++ [.wire .rstart] })

/-- The address matcher and the external stop (41_wire_engine.md section 4). -/
def Obligations.SlaveRoleIsEnteredAndLeft : Prop :=
  ∀ s : State, s.clken = true → s.pe = true → s.msl = false →
    ((s.phase = .idle ∨ s.phase = .bOther ∨ s.phase = .sEnd ∨
        (s.phase = .sRx ∧ s.addr = false ∧ s.shRx = false)) →
      ∀ (a7 : Addr7) (rw : Bool),
        ((a7 = s.own ∧ s.ack = true) →
          Runs (.wire (.eAddress a7 rw)) s { s with
            busy := true, addr := true, addrRd := false, tra := rw, phase := if rw then .sTx else .sRx,
            shTx := false, shRx := false, nacked := false, txe := false, btf := false,
            trace := s.trace ++ [.wire (.eAddr a7 rw true)] }) ∧
        ((a7 ≠ s.own ∨ s.ack = false) →
          Runs (.wire (.eAddress a7 rw)) s { s with
            busy := true, phase := .bOther, tra := false,
            trace := s.trace ++ [.wire (.eAddr a7 rw false)] })) ∧
    (s.phase = .bOther →
      Runs (.wire .eStop) s { s with
        phase := .idle, busy := false, tra := false, txe := false, trace := s.trace ++ [.wire .eStop] }) ∧
    ((s.phase = .sEnd ∨ (s.phase = .sRx ∧ s.addr = false ∧ s.shRx = false)) →
      Runs (.wire .eStop) s { s with
        stopf := true, phase := .idle, busy := false, tra := false, txe := false,
        trace := s.trace ++ [.wire .eStop] })

/-- Lost arbitration ends the master role and leaves the session (41_wire_engine.md section 6); the model's own `wFailed`
notes it (log 22). -/
def Obligations.LostArbitrationEndsTheMasterRole : Prop :=
  ∀ s : State, s.clken = true → s.pe = true → s.msl = true →
    (s.phase = .mAddr ∨ (s.phase = .mTx ∧ s.addr = false ∧ s.shTx = true)) →
    Runs (.wire .arlo) s { s with
      arlo := true, msl := false, tra := false, shTx := false, txe := false, btf := false, stop := false,
      phase := .bOther, wFailed := true, trace := s.trace ++ [.wire .arlo] }

/-- 41_wire_engine.md R184: an error event sets its flag and nothing else. -/
def Obligations.ErrorEventSetsOnlyItsFlag : Prop :=
  (∀ s : State, s.clken = true → s.pe = true →
    Runs (.wire (.err .berr)) s { s with berr := true, trace := s.trace ++ [.wire (.err .berr)] } ∧
    Runs (.wire (.err .arlo)) s { s with arlo := true, trace := s.trace ++ [.wire (.err .arlo)] } ∧
    Runs (.wire (.err .af)) s { s with af := true, trace := s.trace ++ [.wire (.err .af)] } ∧
    Runs (.wire (.err .ovr)) s { s with ovr := true, trace := s.trace ++ [.wire (.err .ovr)] } ∧
    Runs (.wire (.err .timeout)) s { s with timeout := true, trace := s.trace ++ [.wire (.err .timeout)] }) ∧
  ∀ (s t : State) (e : WireEvent), Runs (.wire e) s t → s.ovr = false → t.ovr = true → e = .err .ovr

/-- When each wire event cannot occur (41_wire_engine.md sections 1 to 6, the guards written out), and what the wire
engine never does (section 7: R186, which the spec marks as its own inference, as it does R174): while the block
holds the clock no unit moves; what the engine never writes, never clears and never generates unasked; and that it
never reads the session registers, the command port, `IEN` or memory: with those of any other state `u` it does
the same. An event that cannot occur is a step without effect (log 2). -/
def Obligations.WireEngineLeavesTheRestAlone : Prop :=
  (∀ s : State,
    (s.clken = false ∨ s.pe = false → ∀ e : WireEvent, Runs (.wire e) s s) ∧
    (s.start = false ∨ (s.stop = true ∧ s.msl = true) ∨
        (s.phase ≠ .idle ∧ (s.msl = false ∨ (s.phase ≠ .mSb ∧ s.phase ≠ .mHalt ∧
          (s.phase ≠ .mTx ∨ s.shTx = true) ∧
          (s.phase ≠ .mRx ∨ (s.addr = false ∧ s.nacked = false ∧ s.shRx = false))))) →
      Runs (.wire .start) s s) ∧
    (s.stop = false ∨ (s.msl = true ∧ s.phase ≠ .mSb ∧ s.phase ≠ .mHalt ∧
          (s.phase ≠ .mTx ∨ s.shTx = true) ∧
          (s.phase ≠ .mRx ∨ (s.addr = false ∧ s.nacked = false ∧ s.shRx = false))) →
      Runs (.wire .stop) s s) ∧
    (s.phase ≠ .mAddr → ∀ a : Ack, Runs (.wire (.addrResult a)) s s) ∧
    ((s.phase ≠ .mTx ∧ s.phase ≠ .sTx) ∨ s.addr = true ∨ s.shTx = false →
      ∀ a : Ack, Runs (.wire (.txByte a)) s s) ∧
    ((s.phase ≠ .mRx ∧ s.phase ≠ .sRx) ∨ s.addr = true ∨ s.shRx = true ∨ s.nacked = true →
      ∀ b : Byte, Runs (.wire (.rxByte b)) s s) ∧
    (s.msl = true ∨ (s.phase ≠ .idle ∧ s.phase ≠ .bOther ∧ s.phase ≠ .sEnd ∧
          (s.phase ≠ .sRx ∨ s.addr = true ∨ s.shRx = true)) →
      ∀ (a7 : Addr7) (rw : Bool), Runs (.wire (.eAddress a7 rw)) s s) ∧
    (s.msl = true ∨ (s.phase ≠ .bOther ∧ s.phase ≠ .sEnd ∧
          (s.phase ≠ .sRx ∨ s.addr = true ∨ s.shRx = true)) →
      Runs (.wire .eStop) s s) ∧
    (s.msl = false ∨ (s.phase ≠ .mAddr ∧ (s.phase ≠ .mTx ∨ s.addr = true ∨ s.shTx = false)) →
      Runs (.wire .arlo) s s)) ∧
  (∀ s : State, FlagInv s →
    (s.sb = true ∨ s.addr = true ∨ (s.tra = true ∧ s.txe = true ∧ s.btf = true) ∨
      (s.tra = true ∧ s.shTx = false) ∨ s.shRx = true ∨ s.phase = .mHalt) →
    (∀ a : Ack, Runs (.wire (.txByte a)) s s) ∧ ∀ b : Byte, Runs (.wire (.rxByte b)) s s) ∧
  ∀ (e : WireEvent) (s t : State), Runs (.wire e) s t →
    SameSession s t ∧ SameCommand s t ∧ SameEnables s t ∧ t.mem = s.mem ∧ t.ack = s.ack ∧ t.pe = s.pe ∧
    SameSeq s t ∧ SameCallback s t ∧ SameConfig s t ∧ t.clken = s.clken ∧
    (s.addr = true → t.addr = true) ∧ (s.stopf = true → t.stopf = true) ∧ (s.rxne = true → t.rxne = true) ∧
    (∀ f : ErrFlag, f.get s = true → f.get t = true) ∧ (s.wFailed = true → t.wFailed = true) ∧
    (∃ l : List Rec, t.trace = s.trace ++ l ∧ (∀ r ∈ l, r.isWire = true) ∧
      (Rec.wire .stop ∈ l → s.stop = true) ∧
      (Rec.wire .start ∈ l ∨ Rec.wire .rstart ∈ l → s.start = true)) ∧
    ∀ u : State,
      Runs (.wire e)
        { s with
          role := u.role, cursor := u.cursor, remain := u.remain, taddr := u.taddr, rs := u.rs,
          opBuf := u.opBuf, opLen := u.opLen, cmd := u.cmd, resVal := u.resVal, resSt := u.resSt,
          itbufen := u.itbufen, itevten := u.itevten, iterren := u.iterren, mem := u.mem }
        { t with
          role := u.role, cursor := u.cursor, remain := u.remain, taddr := u.taddr, rs := u.rs,
          opBuf := u.opBuf, opLen := u.opLen, cmd := u.cmd, resVal := u.resVal, resSt := u.resSt,
          itbufen := u.itbufen, itevten := u.itevten, iterren := u.iterren, mem := u.mem }

/-! ### The blocking engine -/

/-- The steps T0 to T8 of a send (42_blocking_engine.md section 2). That T3, T5 and T7 do
not pass once the transfer has failed is the model's reading (log 22); where a spin does not pass:
`BlockingOperationHoldsHost`. -/
def Obligations.SendStepsFollowTheirLabels : Prop :=
  ∀ s : State, s.clken = true → s.cbw = false → s.seqMode = .blk →
    (s.bpc = .t0 → Runs .seq s { s with start := true, bpc := .t1, trace := s.trace ++ [.prim .startReq] }) ∧
    (s.bpc = .t1 → s.sb = true → Runs .seq s { s with bpc := .t2 }) ∧
    (s.bpc = .t2 → Runs .seq s
      { drWrite (addrByte s.wAddr false) { s with trace := s.trace ++ [.prim (.addrW s.wAddr)] } with
        bpc := .t3, wFailed := false }) ∧
    (s.bpc = .t3 → s.addr = true → s.wFailed = false → Runs .seq s { s with bpc := .t4 }) ∧
    (s.bpc = .t4 → s.role = .ready → Runs .seq s { s with
      addr := false, addrRd := if s.addr then false else s.addrRd,
      txe := if s.addr && s.tra then true else s.txe, bpc := .t5, trace := s.trace ++ [.prim .clearAddr] }) ∧
    (s.bpc = .t5 → s.wLen = 0 → Runs .seq s { s with bpc := .t7 }) ∧
    (s.bpc = .t5 → s.wLen ≠ 0 → s.txe = true → s.wFailed = false → Runs .seq s { s with bpc := .t6 }) ∧
    (s.bpc = .t6 → Runs .seq s
      { drWrite (s.memAt s.wCur) { s with trace := s.trace ++ [.memr s.wCur (s.memAt s.wCur)] } with
        wCur := s.wCur + 1, wLen := s.wLen - 1, bpc := .t5 }) ∧
    (s.bpc = .t7 → s.txe = true → s.btf = true → s.wFailed = false → Runs .seq s { s with bpc := .t8 }) ∧
    (s.bpc = .t8 → s.wRs = false → Runs .seq s { s with
      stop := true, seqMode := .idle, resVal := 0, resSt := 0, trace := s.trace ++ [.prim .stopReq] }) ∧
    (s.bpc = .t8 → s.wRs = true → Runs .seq s { s with seqMode := .idle, resVal := 0, resSt := 0 })

/-- The steps V0 to V13 of a receive (42_blocking_engine.md section 3). Memory is written at `W_CUR` and
nowhere else. The model's readings: V12 and V12.1 are one step (log 11), V4, V8 and V11 do not pass once the transfer has
failed (log 22). -/
def Obligations.ReceiveStepsFollowTheirLabels : Prop :=
  ∀ s : State, s.clken = true → s.cbw = false → s.seqMode = .blk →
    (s.bpc = .v0 → Runs .seq s { s with ack := true, bpc := .v1, trace := s.trace ++ [.prim .ackEn] }) ∧
    (s.bpc = .v1 → Runs .seq s { s with start := true, bpc := .v2, trace := s.trace ++ [.prim .startReq] }) ∧
    (s.bpc = .v2 → s.sb = true → Runs .seq s { s with bpc := .v3 }) ∧
    (s.bpc = .v3 → Runs .seq s
      { drWrite (addrByte s.wAddr true) { s with trace := s.trace ++ [.prim (.addrR s.wAddr)] } with
        bpc := .v4, wFailed := false }) ∧
    (s.bpc = .v4 → s.addr = true → s.wFailed = false → s.wLen = 1 → Runs .seq s { s with bpc := .v5 }) ∧
    (s.bpc = .v4 → s.addr = true → s.wFailed = false → s.wLen ≠ 1 → Runs .seq s { s with bpc := .v10 }) ∧
    (s.bpc = .v5 → Runs .seq s { s with ack := false, bpc := .v6, trace := s.trace ++ [.prim .ackDis] }) ∧
    ((s.bpc = .v6 ∨ s.bpc = .v10) → s.role = .ready → Runs .seq s { s with
      addr := false, addrRd := if s.addr then false else s.addrRd,
      txe := if s.addr && s.tra then true else s.txe, bpc := if s.bpc = .v6 then .v7 else .v11,
      trace := s.trace ++ [.prim .clearAddr] }) ∧
    ((s.bpc = .v7 ∨ s.bpc = .v12b) → s.wRs = false → Runs .seq s { s with
      stop := true, bpc := if s.bpc = .v7 then .v8 else .v13, trace := s.trace ++ [.prim .stopReq] }) ∧
    ((s.bpc = .v7 ∨ s.bpc = .v12b) → s.wRs = true → Runs .seq s { s with
      bpc := if s.bpc = .v7 then .v8 else .v13 }) ∧
    (s.bpc = .v8 → s.rxne = true → s.wFailed = false → Runs .seq s { s with bpc := .v9 }) ∧
    (s.bpc = .v11 → s.wLen = 0 → Runs .seq s { s with seqMode := .idle, resVal := 0, resSt := 0 }) ∧
    (s.bpc = .v11 → s.wLen ≠ 0 → s.rxne = true → s.wFailed = false → Runs .seq s { s with bpc := .v12 }) ∧
    (s.bpc = .v12 → s.wLen = 2 →
      Runs .seq s { s with ack := false, bpc := .v12b, trace := s.trace ++ [.prim .ackDis] }) ∧
    (s.bpc = .v12 → s.wLen ≠ 2 → Runs .seq s { s with bpc := .v13 }) ∧
    ((s.bpc = .v9 ∨ s.bpc = .v13) → Memory.wf s.mem = true → ∃ t : State, Runs .seq s t ∧
      t.memAt s.wCur = s.dr ∧ (∀ a : Word, a ≠ s.wCur → t.memAt a = s.memAt a) ∧
      { t with mem := s.mem } = { s with
        dr := if s.shRx then s.shift else s.dr, shRx := false,
        btf := if s.shRx then false else s.btf, rxne := if s.shRx then s.rxne else false,
        wCur := s.wCur + 1, wLen := if s.bpc = .v9 then 0 else s.wLen - 1,
        seqMode := if s.bpc = .v9 then .idle else .blk, bpc := if s.bpc = .v9 then .v9 else .v11,
        resVal := if s.bpc = .v9 then 0 else s.resVal, resSt := if s.bpc = .v9 then 0 else s.resSt,
        trace := s.trace ++ [.drr s.dr, .memw s.wCur s.dr] })

/-- What no step of a blocking operation writes (42_blocking_engine.md section 1). -/
def Obligations.BlockingEngineNeverWritesTheSession : Prop :=
  ∀ s t : State, s.seqMode = .blk → Runs .seq s t →
    SameSession s t ∧ SameEnables s t ∧ SameConfig s t ∧ SameErrors s t ∧ SameCallback s t ∧
    t.pe = s.pe ∧ t.clken = s.clken ∧ t.stopf = s.stopf ∧ t.msl = s.msl ∧ t.busy = s.busy ∧ t.tra = s.tra ∧
    t.nacked = s.nacked ∧ t.wAddr = s.wAddr ∧ t.wRs = s.wRs ∧ t.opBuf = s.opBuf ∧ t.opLen = s.opLen ∧
    t.cbw = s.cbw ∧ t.bop = s.bop ∧ t.dpc = s.dpc ∧
    (s.bpc ≠ .v9 → s.bpc ≠ .v13 → t.mem = s.mem)

/-! ### The dispatchers -/

/-- Checks E0 to E3 (44_dispatcher.md section 2) and the exit (section 1). That the exit is a micro-operation of its own
is the model's reading (log 11), and so is that E2 leaves a slave transmitter alone whatever the session (log 24). -/
def Obligations.EventChecksForStartAddressEndAndStop : Prop :=
  ∀ s : State, s.clken = true → s.cbw = false → s.seqMode = .ev →
    (s.dpc = .e0 → Runs .seq s { s with dpc := if s.sb then .e0a else .e1 }) ∧
    (s.dpc = .e0a → s.role = .busyTx → Runs .seq s
      { drWrite (addrByte s.taddr false) { s with trace := s.trace ++ [.prim (.addrW s.taddr)] } with
        dpc := .e1 }) ∧
    (s.dpc = .e0a → s.role = .busyRx → Runs .seq s
      { drWrite (addrByte s.taddr true) { s with trace := s.trace ++ [.prim (.addrR s.taddr)] } with
        dpc := .e1 }) ∧
    (s.dpc = .e0a → s.role = .ready → Runs .seq s { s with dpc := .e1 }) ∧
    (s.dpc = .e1 → Runs .seq s { s with dpc := if s.addr then .e1a else .e2 }) ∧
    (s.dpc = .e1a → Runs .seq s { s with
      ack := if s.role = .busyRx ∧ s.remain = 1 then false else s.ack,
      addr := false, addrRd := if s.addr then false else s.addrRd,
      txe := if s.addr && s.tra then true else s.txe, dpc := .e2,
      trace := s.trace ++ (if s.role = .busyRx ∧ s.remain = 1 then [.prim .ackDis] else []) ++
        [.prim .clearAddr] }) ∧
    (s.dpc = .e2 → Runs .seq s { s with
      dpc := if s.btf = true ∧ s.role = .busyTx ∧ s.remain = 0 ∧ s.txe = true ∧ s.phase ≠ .sTx then .e2s1
        else .e3 }) ∧
    (s.dpc = .e2s1 → s.rs = false → Runs .seq s
      { s with stop := true, dpc := .e2s2, trace := s.trace ++ [.prim .stopReq] }) ∧
    (s.dpc = .e2s1 → s.rs = true → Runs .seq s { s with dpc := .e2s2 }) ∧
    (s.dpc = .e3 → Runs .seq s { s with dpc := if s.stopf then .e3s1 else .e4 }) ∧
    (s.dpc = .e3s1 → Runs .seq s
      { s with stopf := false, dpc := .e3s2, trace := s.trace ++ [.prim .clearStopf] }) ∧
    (s.dpc = .exit → Runs .seq s { s with seqMode := .idle, resVal := 0, resSt := 0 })

/-- Checks E4 and E5 (44_dispatcher.md section 2). Memory is written at `CURSOR` and nowhere else. -/
def Obligations.EventChecksForReceivedAndNextUnit : Prop :=
  ∀ s : State, s.clken = true → s.cbw = false → s.seqMode = .ev →
    (s.dpc = .e4 → s.rxne = true → s.msl = true → s.role = .busyRx → s.remain ≠ 0 →
      Runs .seq s { s with dpc := .e4s1 }) ∧
    (s.dpc = .e4 → s.rxne = true → s.msl = false → s.tra = false → Runs .seq s { s with dpc := .e4slave }) ∧
    (s.dpc = .e4 → (s.rxne = false ∨ (s.msl = true ∧ (s.role ≠ .busyRx ∨ s.remain = 0)) ∨
        (s.msl = false ∧ s.tra = true)) → Runs .seq s { s with dpc := .e5 }) ∧
    (s.dpc = .e4s1 → s.remain = 2 → Runs .seq s
      { s with ack := false, dpc := .e4s2, trace := s.trace ++ [.prim .ackDis] }) ∧
    (s.dpc = .e4s1 → s.remain ≠ 2 → Runs .seq s { s with dpc := .e4s2 }) ∧
    (s.dpc = .e4s2 → Memory.wf s.mem = true → ∃ t : State, Runs .seq s t ∧
      t.memAt s.cursor = s.dr ∧ (∀ a : Word, a ≠ s.cursor → t.memAt a = s.memAt a) ∧
      { t with mem := s.mem } = { s with
        dr := if s.shRx then s.shift else s.dr, shRx := false,
        btf := if s.shRx then false else s.btf, rxne := if s.shRx then s.rxne else false,
        cursor := s.cursor + 1, remain := s.remain - 1, dpc := if s.remain = 1 then .e4s3 else .e5,
        trace := s.trace ++ [.drr s.dr, .memw s.cursor s.dr] }) ∧
    (s.dpc = .e4s3 → s.rs = false → Runs .seq s
      { s with stop := true, dpc := .e4s4, trace := s.trace ++ [.prim .stopReq] }) ∧
    (s.dpc = .e4s3 → s.rs = true → Runs .seq s { s with dpc := .e4s4 }) ∧
    (s.dpc = .e5 → s.txe = true → s.msl = true → s.role = .busyTx → s.remain ≠ 0 →
      Runs .seq s { s with dpc := .e5master }) ∧
    (s.dpc = .e5 → s.txe = true → s.msl = false → s.tra = true → Runs .seq s { s with dpc := .e5slave }) ∧
    (s.dpc = .e5 → (s.txe = false ∨ (s.msl = true ∧ (s.role ≠ .busyTx ∨ s.remain = 0)) ∨
        (s.msl = false ∧ s.tra = false)) → Runs .seq s { s with dpc := .exit }) ∧
    (s.dpc = .e5master → Runs .seq s
      { drWrite (s.memAt s.cursor) { s with trace := s.trace ++ [.memr s.cursor (s.memAt s.cursor)] } with
        cursor := s.cursor + 1, remain := s.remain - 1, dpc := .exit })

/-- 43_async_engine.md R224: the closing sequence, where it runs, that no operation performs it, and that it is
idempotent. -/
def Obligations.ClosingSequenceResetsTheSession : Prop :=
  (∀ s : State, s.clken = true → s.cbw = false → s.seqMode = .ev → (s.dpc = .e2s2 ∨ s.dpc = .e4s4) →
    Runs .seq s { s with
      itbufen := false, itevten := false, cursor := 0, remain := 0, role := .ready, taddr := 0, rs := false,
      dpc := if s.dpc = .e2s2 then .e2s3 else .e4s5, trace := s.trace ++ [.close] }) ∧
  (∀ (i : Instr) (s t : State), exec i s = .next t → Rec.close ∉ t.trace.drop s.trace.length) ∧
  ∀ s : State, closeOp (closeOp s) = { closeOp s with trace := s.trace ++ [.close, .close] } ∧
    (closeOp s).role = .ready ∧ (closeOp s).remain = 0

/-- Each error check clears its flag, then reports it, and touches nothing else; the order of the checks and the exit
(44_dispatcher.md section 3). That the exit is a micro-operation of its own is the model's reading (log 11). -/
def Obligations.ErrorChecksReportEachFlagOnce : Prop :=
  ∀ s : State, s.clken = true → s.cbw = false → s.seqMode = .er →
    (∀ f : ErrFlag, s.dpc = .err f .check →
      Runs .seq s { s with dpc := if f.get s then .err f .clear else f.nextCheck }) ∧
    (s.dpc = .err .berr .clear → Runs .seq s
      { s with berr := false, dpc := .err .berr .call, trace := s.trace ++ [.clr .berr] }) ∧
    (s.dpc = .err .arlo .clear → Runs .seq s
      { s with arlo := false, dpc := .err .arlo .call, trace := s.trace ++ [.clr .arlo] }) ∧
    (s.dpc = .err .af .clear → Runs .seq s
      { s with af := false, dpc := .err .af .call, trace := s.trace ++ [.clr .af] }) ∧
    (s.dpc = .err .ovr .clear → Runs .seq s
      { s with ovr := false, dpc := .err .ovr .call, trace := s.trace ++ [.clr .ovr] }) ∧
    (s.dpc = .err .timeout .clear → Runs .seq s
      { s with timeout := false, dpc := .err .timeout .call, trace := s.trace ++ [.clr .timeout] }) ∧
    (∀ f : ErrFlag, s.dpc = .err f .call →
      (s.cbEn = true → Runs .seq s { s with
        dpc := f.nextCheck, cbw := true, cbValid := true, cbCode := f.event.code,
        trace := s.trace ++ [.cb f.event] }) ∧
      (s.cbEn = false → Runs .seq s { s with dpc := f.nextCheck, trace := s.trace ++ [.cb f.event] })) ∧
    (s.dpc = .exit → Runs .seq s { s with seqMode := .idle, resVal := 0, resSt := 0 }) ∧
    ErrFlag.berr.nextCheck = .err .arlo .check ∧ ErrFlag.arlo.nextCheck = .err .af .check ∧
    ErrFlag.af.nextCheck = .err .ovr .check ∧ ErrFlag.ovr.nextCheck = .err .timeout .check ∧
    ErrFlag.timeout.nextCheck = .exit ∧
    ErrFlag.berr.event.code = 3 ∧ ErrFlag.arlo.event.code = 4 ∧ ErrFlag.af.event.code = 5 ∧
    ErrFlag.ovr.event.code = 6 ∧ ErrFlag.timeout.event.code = 7

/-- The callback: where the event dispatcher invokes it, with which code, the hand-off and the return
(44_dispatcher.md section 2, 60_exceptions.md sections 4 and 5). The clock is on (log 10). -/
def Obligations.CallbackHandsOverAndReturns : Prop :=
  (∀ (s : State) (d next : DStep) (e : Event) (code : BitVec 4),
    (d, next, e, code) ∈
      [(.e2s3, .e3, .masterTxComplete, 0), (.e4s5, .e5, .masterRxComplete, 1),
       (.e3s2, .e4, .slaveStopDetected, 2), (.e5slave, .exit, .slaveDataRequested, 8),
       (.e4slave, .e5, .slaveReadRequest, 9)] →
    s.clken = true → s.cbw = false → s.seqMode = .ev → s.dpc = d →
    (s.cbEn = true → Runs .seq s { s with
      dpc := next, cbw := true, cbValid := true, cbCode := code, trace := s.trace ++ [.cb e] }) ∧
    (s.cbEn = false → Runs .seq s { s with dpc := next, trace := s.trace ++ [.cb e] })) ∧
  (∀ s : State, s.clken = true → s.cbw = true →
    Runs .seq s s ∧ Runs (.host .cbDone) s { s with cbw := false, cbValid := false }) ∧
  (∀ s : State, s.cbw = false → Runs (.host .cbDone) s s)

/-- What a dispatcher never does (44_dispatcher.md section 1: R247, which the spec marks as its own inference), in
states that meet the sequencer's invariant. -/
def Obligations.DispatcherNeverExceedsItsRole : Prop :=
  ∀ s t : State, SeqInv s → s.clken = true → s.cbw = false → (s.seqMode = .ev ∨ s.seqMode = .er) →
    Runs .seq s t →
    (t.dpc ≠ s.dpc ∨ t.seqMode = .idle) ∧
    (s.seqMode = .ev → SameErrors s t) ∧
    (s.seqMode = .er → t.sb = s.sb ∧ t.addr = s.addr ∧ t.btf = s.btf ∧ t.stopf = s.stopf ∧
      t.rxne = s.rxne ∧ t.txe = s.txe) ∧
    t.iterren = s.iterren ∧ (t.ack = true → s.ack = true) ∧
    (t.role ≠ s.role → t.role = .ready ∧ (s.dpc = .e2s2 ∨ s.dpc = .e4s4))

/-- While a dispatcher runs none is entered; the other's flags stay set and are served after its exit
(60_exceptions.md section 5). That the command words are illegal in callback context with `CLKEN = 0` too, and not
ignored, is the model's reading (log 5). -/
def Obligations.NoDispatcherIsEnteredWhileOneRuns : Prop :=
  (∀ s : State, (s.seqMode = .ev ∨ s.seqMode = .er) →
    (∀ l : IrqLine, Runs (.pulse l) s s) ∧
    (s.cbw = true → Runs (cmdMove 0x18) s ({ s with cmd := 0x18 }.afterIllegal 0x18) ∧
      Runs (cmdMove 0x19) s ({ s with cmd := 0x19 }.afterIllegal 0x19)) ∧
    (s.cbw = false → Runs (cmdMove 0x18) s s ∧ Runs (cmdMove 0x19) s s)) ∧
  ∀ s t : State, SeqInv s → (s.seqMode = .ev ∨ s.seqMode = .er) → Runs .seq s t →
    (s.seqMode = .ev → SameErrors s t) ∧
    (s.seqMode = .er → t.sb = s.sb ∧ t.addr = s.addr ∧ t.btf = s.btf ∧ t.stopf = s.stopf ∧
      t.rxne = s.rxne ∧ t.txe = s.txe) ∧
    (t.seqMode = .idle → t.clken = true →
      Runs (.pulse .ev) t { t with seqMode := .ev, dpc := .e0, trace := t.trace ++ [.op .evdisp] } ∧
      Runs (.pulse .er) t
        { t with seqMode := .er, dpc := .err .berr .check, trace := t.trace ++ [.op .erdisp] })

/-- 60_exceptions.md R292. -/
def Obligations.InterruptLinesFollowFlagsAndEnables : Prop :=
  ∀ s : State,
    (s.irqEv = true ↔ s.itevten = true ∧ (s.sb = true ∨ s.addr = true ∨ s.btf = true ∨ s.stopf = true ∨
      (s.itbufen = true ∧ (s.txe = true ∨ s.rxne = true)))) ∧
    (s.irqEr = true ↔ s.iterren = true ∧
      (s.berr = true ∨ s.arlo = true ∨ s.af = true ∨ s.ovr = true ∨ s.timeout = true))

/-! ### The register port -/

/-- The layout of the register words (10_state.md sections 4 and 6). -/
def Obligations.RegisterWordsShowTheFields : Prop :=
  ∀ s : State,
    (∀ n : Nat, s.sr1Word.getLsbD n =
      match n with
      | 0 => s.sb | 1 => s.addr | 2 => s.btf | 4 => s.stopf | 6 => s.rxne | 7 => s.txe | 8 => s.berr
      | 9 => s.arlo | 10 => s.af | 11 => s.ovr | 14 => s.timeout | _ => false) ∧
    (∀ n : Nat, s.sr2Word.getLsbD n =
      match n with | 0 => s.msl | 1 => s.busy | 2 => s.tra | _ => false) ∧
    (∀ n : Nat, s.ctrlWord.getLsbD n =
      match n with | 0 => s.pe | 8 => s.start | 9 => s.stop | 10 => s.ack | _ => false) ∧
    (∀ n : Nat, s.ienWord.getLsbD n =
      match n with | 8 => s.iterren | 9 => s.itevten | 10 => s.itbufen | _ => false) ∧
    (∀ n : Nat, s.cfgWord.getLsbD n = match n with | 14 => s.duty | 15 => s.fs | _ => false) ∧
    s.oarWord.extractLsb' 1 7 = s.own ∧ s.oarWord.getLsbD 0 = false ∧ s.oarWord.extractLsb' 8 24 = 0 ∧
    s.resultWord.extractLsb' 0 8 = s.resVal ∧ s.resultWord.extractLsb' 8 2 = s.resSt ∧
    s.resultWord.extractLsb' 10 22 = 0

/-- The status registers through the register port (20_memory.md section 2). That the reads act with the clock gated
too is the model's reading (log 21). -/
def Obligations.StatusRegisterAccessesHaveSideEffects : Prop :=
  ∀ s : State, (s.seqMode = .idle ∨ s.cbw = true) →
    Runs (.host (.portRead .word 0x14)) s
      { s with stopf := false, addrRd := s.addr || s.addrRd, rdata := s.sr1Word } ∧
    (s.clken = true → ∀ w : Word, Runs (.host (.portWrite .word 0x14 w)) s { s with
      berr := s.berr && w.getLsbD 8, arlo := s.arlo && w.getLsbD 9, af := s.af && w.getLsbD 10,
      ovr := s.ovr && w.getLsbD 11, timeout := s.timeout && w.getLsbD 14 }) ∧
    (s.addrRd = false → Runs (.host (.portRead .word 0x18)) s { s with rdata := s.sr2Word }) ∧
    (s.addrRd = true → Runs (.host (.portRead .word 0x18)) s
      { s with addr := false, addrRd := false, txe := s.tra || s.txe, rdata := s.sr2Word })

/-- A write of `CTRL` is performed as primitives, in order (20_memory.md section 2); and reading `CTRL` and writing it
back with bit 0 cleared is `P_PE_DIS` followed by the requests whose bits read 1 (40_primitives.md section 1). That a
request written back is made again after `P_PE_DIS` drops it is the model's reading (log 20). -/
def Obligations.ControlWriteIsPerformedAsPrimitives : Prop :=
  (∀ s : State, (s.seqMode = .idle ∨ s.cbw = true) → s.clken = true → s.pe = true → s.phase = .idle → s.role = .ready →
    Runs (.host (.portWrite .word 0x00 (s.ctrlWord &&& 0xFFFFFFFE))) s { s with
      pe := false,
      trace := s.trace ++ .prim .peDis :: ((if s.start then [.prim .startReq] else []) ++
        (if s.stop then [.prim .stopReq] else [])) }) ∧
  ∀ (s : State) (w : Word), (s.seqMode = .idle ∨ s.cbw = true) → s.clken = true →
    ∃ dis : Bool, (dis = true ↔ w.getLsbD 0 = false ∧ s.pe = true ∧ s.phase = .idle ∧ s.role = .ready) ∧
      Runs (.host (.portWrite .word 0x00 w)) s { s with
        pe := w.getLsbD 0 || (s.pe && !dis), ack := w.getLsbD 10,
        start := w.getLsbD 8 || (s.start && !dis), stop := w.getLsbD 9 || (s.stop && !dis),
        trace := s.trace ++
          ((if w.getLsbD 0 && !s.pe then [.prim .peEn] else []) ++
           (if dis then [.prim .peDis] else []) ++
           (if w.getLsbD 10 && !s.ack then [.prim .ackEn] else []) ++
           (if !w.getLsbD 10 && s.ack then [.prim .ackDis] else []) ++
           (if w.getLsbD 8 then [.prim .startReq] else []) ++
           (if w.getLsbD 9 then [.prim .stopReq] else [])) }

/-- Registers without side effects, reserved offsets and accesses that are no transaction of the port
(10_state.md section 10, 20_memory.md sections 1 to 3). A read always completes; a write needs the clock. The model's
readings: a write of `CLKEN` leaves no record (log 12); an access that is no transaction ignores a write and reads 0,
where R81 advises to refuse it (log 13). -/
def Obligations.PlainRegisterAccesses : Prop :=
  ∀ s : State, (s.seqMode = .idle ∨ s.cbw = true) →
    Runs (.host (.portRead .word 0x00)) s { s with rdata := s.ctrlWord } ∧
    Runs (.host (.portRead .word 0x04)) s { s with rdata := s.ienWord } ∧
    Runs (.host (.portRead .word 0x08)) s { s with rdata := s.oarWord } ∧
    Runs (.host (.portRead .word 0x0C)) s { s with rdata := s.cfgWord } ∧
    Runs (.host (.portRead .word 0x20)) s { s with rdata := s.role.code.setWidth 32 } ∧
    Runs (.host (.portRead .word 0x24)) s { s with rdata := s.cursor } ∧
    Runs (.host (.portRead .word 0x28)) s { s with rdata := s.remain } ∧
    Runs (.host (.portRead .word 0x2C)) s
      { s with rdata := s.taddr.setWidth 32 ||| (if s.rs then 0x100 else 0) } ∧
    Runs (.host (.portRead .word 0x30)) s { s with rdata := s.opBuf } ∧
    Runs (.host (.portRead .word 0x34)) s { s with rdata := s.opLen } ∧
    Runs (.host (.portRead .word 0x3C)) s { s with rdata := s.resultWord } ∧
    Runs (.host (.portRead .word 0x40)) s { s with rdata := if s.clken then 1 else 0 } ∧
    (∀ (width : PortWidth) (off : Offset),
      (width = .other ∨ off.toNat % 4 ≠ 0 ∨ off = 0x1C ∨ 0x44 ≤ off.toNat) →
      Runs (.host (.portRead width off)) s { s with rdata := 0 } ∧
      ∀ w : Word, Runs (.host (.portWrite width off w)) s s) ∧
    Runs (.host (.portRead .word 0x38)) s { s with rdata := 0 } ∧
    (∀ (off : Offset) (w : Word), off ∈ ([0x18, 0x20, 0x24, 0x28, 0x2C, 0x3C] : List Offset) →
      Runs (.host (.portWrite .word off w)) s s) ∧
    (s.clken = true → ∀ w : Word,
      Runs (.host (.portWrite .word 0x04 w)) s
        { s with iterren := w.getLsbD 8, itevten := w.getLsbD 9, itbufen := w.getLsbD 10 } ∧
      Runs (.host (.portWrite .word 0x30 w)) s { s with opBuf := w } ∧
      Runs (.host (.portWrite .word 0x34 w)) s { s with opLen := w }) ∧
    (∀ w : Word, Runs (.host (.portWrite .word 0x40 w)) s
      { s with clken := w.getLsbD 0 || (s.clken && s.pe) })

/-! ### The whole machine -/

/-- The bus configuration is written only while the peripheral is disabled (10_state.md section 3,
20_memory.md section 2). -/
def Obligations.ConfigurationIsReadOnlyWhileEnabled : Prop :=
  (∀ s t : State, step s = .next t → nextMove s ≠ .reset → s.pe = true → SameConfig s t) ∧
  (∀ (s : State) (w : Word), (s.seqMode = .idle ∨ s.cbw = true) → s.clken = true → s.pe = false →
    Runs (.host (.portWrite .word 0x08 w)) s { s with own := w.extractLsb' 1 7 } ∧
    Runs (.host (.portWrite .word 0x0C w)) s { s with fs := w.getLsbD 15, duty := w.getLsbD 14 })

/-- The clock gate (10_state.md section 4, 20_memory.md section 2, 60_exceptions.md section 7): with `CLKEN = 0`, what
waits, what is illegal, and what still acts. The model's readings: SEQ and `cb_done` wait too (log 10); a command
word or a dispatch pulse is illegal and not ignored (log 5, log 15); port reads keep their side effects (log 21). What
`P_CLK_EN`, `INIT` and a write of `CLKEN` do: `ClockGateOperationsTakeEffect`, `InitWritesTheConfiguration`,
`PlainRegisterAccesses`. -/
def Obligations.GatedClockFreezesTheBlock : Prop :=
  ∀ s : State, s.clken = false →
    Runs .seq s s ∧ (∀ e : WireEvent, Runs (.wire e) s s) ∧ Runs (.host .cbDone) s s ∧
    (∀ (width : PortWidth) (off : Offset) (w : Word), off ≠ 0x38 → off ≠ 0x40 →
      Runs (.host (.portWrite width off w)) s s) ∧
    (∀ i : Instr, i ≠ .pClkEn → isInit i = false → exec i s = .next (s.afterIllegal (encode i))) ∧
    (s.seqMode = .idle →
      Runs (.pulse .ev) s (s.afterIllegal 0x18) ∧ Runs (.pulse .er) s (s.afterIllegal 0x19)) ∧
    ((s.seqMode = .idle ∨ s.cbw = true) →
      Runs (.host (.portRead .word 0x10)) s { s with
        dr := if s.shRx then s.shift else s.dr, shRx := false,
        btf := if s.shRx then false else s.btf, rxne := if s.shRx then s.rxne else false,
        rdata := s.dr.setWidth 32, trace := s.trace ++ [.drr s.dr] } ∧
      Runs (.host (.portRead .word 0x14)) s
        { s with stopf := false, addrRd := s.addr || s.addrRd, rdata := s.sr1Word } ∧
      Runs (.host (.portRead .word 0x18)) s { s with
        addr := s.addr && !s.addrRd, addrRd := false, txe := (s.addrRd && s.tra) || s.txe,
        rdata := s.sr2Word } ∧
      ∀ (width : PortWidth) (off : Offset),
        (width = .other ∨ (off ≠ 0x10 ∧ off ≠ 0x14 ∧ off ≠ 0x18)) →
        ∃ v : Word, Runs (.host (.portRead width off)) s { s with rdata := v })

/-- The state after reset, and that reset leads to it from every state (10_state.md section 11). Nothing is said of
buffer memory, the schedule and its counter, which are no registers of the block (log 8). The elements to which no
rule gives a reset value have the model's (log 9). -/
def Obligations.ResetGivesTheResetState : Prop :=
  (∀ s : State, ∃ t : State, Runs .reset s t ∧ { t with mem := [], schedule := [], tick := 0 } = State.reset) ∧
  (∀ r : Reg, regValue r State.reset = 0) ∧
  State.reset.role = .ready ∧ State.reset.cursor = 0 ∧ State.reset.remain = 0 ∧ State.reset.taddr = 0 ∧
  State.reset.rs = false ∧ State.reset.sr1Word = 0 ∧ State.reset.sr2Word = 0 ∧ State.reset.ctrlWord = 0 ∧
  State.reset.ienWord = 0 ∧ State.reset.own = 0 ∧ State.reset.cfgWord = 0 ∧ State.reset.dr = 0 ∧
  State.reset.clken = false ∧ State.reset.shift = 0 ∧ State.reset.shTx = false ∧ State.reset.shRx = false ∧
  State.reset.phase = .idle ∧ State.reset.nacked = false ∧ State.reset.addrRd = false ∧
  State.reset.seqMode = .idle ∧ State.reset.cbw = false ∧ State.reset.wCur = 0 ∧ State.reset.wLen = 0 ∧
  State.reset.wAddr = 0 ∧ State.reset.wRs = false ∧ State.reset.cbEn = false ∧ State.reset.opBuf = 0 ∧
  State.reset.opLen = 0 ∧ State.reset.resultWord = 0 ∧ State.reset.trace = [] ∧
  State.reset.irqEv = false ∧ State.reset.irqEr = false

/-- The invariants hold after reset (10_state.md sections 2, 8, 11 and 12; log 16); the canonical form of memory and that
nothing is listed at reset are the model's choice (log 7). -/
def Obligations.InvariantsHoldAtReset : Prop :=
  FlagInv State.reset ∧ SeqInv State.reset ∧ Memory.wf State.reset.mem = true

/-- 10_state.md section 12 (R56, which the spec marks as its own inference): (a) to (f) hold after reset and are
kept by every step of every agent, with R52 and what the induction needs (`FlagInv`); (g) `STOPF` is set only by
an external stop while this block is not master; (h) `START` and `STOP` are cleared only by wire events and by
`P_PE_DIS`, reset apart. -/
def Obligations.EveryStepKeepsTheFlagInvariants : Prop :=
  FlagInv State.reset ∧
  (∀ s t : State, FlagInv s → step s = .next t → FlagInv t) ∧
  (∀ s t : State, step s = .next t → s.stopf = false → t.stopf = true →
    nextMove s = .wire .eStop ∧ s.msl = false) ∧
  (∀ s t : State, step s = .next t →
    (s.start = true ∧ t.start = false) ∨ (s.stop = true ∧ t.stop = false) →
      (∃ e : WireEvent, nextMove s = .wire e) ∨ nextMove s = .reset ∨
        Rec.prim .peDis ∈ t.trace.drop s.trace.length)

/-- The invariants of the sequencer and of the session (10_state.md sections 2 and 8; log 16) are kept by every
step of every agent. -/
def Obligations.EveryStepKeepsTheSequencerInvariants : Prop :=
  ∀ s t : State, SeqInv s → step s = .next t → SeqInv t

/-- Memory keeps its canonical form (log 7). -/
def Obligations.EveryStepKeepsMemoryCanonical : Prop :=
  ∀ s t : State, Memory.wf s.mem = true → step s = .next t → Memory.wf t.mem = true

/-- The only stores to buffer memory (20_memory.md section 1): HOST's own, and the block's at its cursor. That HOST's own
takes effect in every state, also while a blocking operation runs or spins, is the model's reading (log 25). -/
def Obligations.MemoryChangesOnlyAtTheCursor : Prop :=
  (∀ (s : State) (a : Word) (v : Byte), Memory.wf s.mem = true →
    ∃ t : State, Runs (.host (.memStore a v)) s t ∧ t.memAt a = v ∧
      (∀ b : Word, b ≠ a → t.memAt b = s.memAt b) ∧ { t with mem := s.mem } = s) ∧
  ∀ s t : State, Memory.wf s.mem = true → step s = .next t → ∀ a : Word, t.memAt a ≠ s.memAt a →
    (nextMove s = .seq ∧ s.seqMode = .blk ∧ (s.bpc = .v9 ∨ s.bpc = .v13) ∧ a = s.wCur ∧ t.memAt a = s.dr) ∨
    (nextMove s = .seq ∧ s.dpc = .e4s2 ∧ a = s.cursor ∧ t.memAt a = s.dr) ∨
    (∃ v : Byte, nextMove s = .host (.memStore a v) ∧ t.memAt a = v)

/-- 43_async_engine.md section 3 (R225, which the spec marks as its own inference; reset apart): at most one
outstanding transfer, mutated by the dispatcher alone; a rejected request is forgotten. -/
def Obligations.SessionHoldsOneTransferAtATime : Prop :=
  (∀ s t : State, step s = .next t →
    (s.role = .ready → t.role ≠ .ready →
      ∃ (w : Word) (i : Instr), nextMove s = cmdMove w ∧ decode w = .ok i ∧ armsSession i = true) ∧
    (s.role ≠ .ready → t.role = .ready →
      nextMove s = .reset ∨ (nextMove s = .seq ∧ (s.dpc = .e2s2 ∨ s.dpc = .e4s4))) ∧
    (s.role ≠ .ready → t.role ≠ .ready →
      t.role = s.role ∧ t.taddr = s.taddr ∧ t.rs = s.rs ∧
      (t.cursor ≠ s.cursor ∨ t.remain ≠ s.remain →
        nextMove s = .seq ∧ (s.dpc = .e4s2 ∨ s.dpc = .e5master)))) ∧
  ∀ (i : Instr) (s t : State), armsSession i = true → s.role ≠ .ready → exec i s = .next t →
    { t with resVal := s.resVal, resSt := s.resSt, trace := s.trace } = s

/-- How an error flag is set and cleared (10_state.md section 6), reset apart. -/
def Obligations.ErrorFlagsChangeOnlyByRule : Prop :=
  ∀ (s t : State) (f : ErrFlag), step s = .next t →
    (f.get s = false → f.get t = true →
      nextMove s = .wire (.err f) ∨
      (f = .af ∧ (nextMove s = .wire (.addrResult .nack) ∨ nextMove s = .wire (.txByte .nack))) ∨
      (f = .arlo ∧ nextMove s = .wire .arlo)) ∧
    (f.get s = true → f.get t = false →
      nextMove s = .reset ∨ (nextMove s = .seq ∧ s.dpc = .err f .clear) ∨
      ∃ w : Word, nextMove s = .host (.portWrite .word 0x14 w) ∧ w.getLsbD (errBit f) = false)

/-- `TRACE` is not hardware state: no rule reads it (10_state.md section 9). Two states that differ only in
`TRACE` step to states that differ only in `TRACE`. -/
def Obligations.TraceIsReadByNoRule : Prop :=
  ∀ (s : State) (l : List Rec), ∃ t u : State,
    step s = .next t ∧ step { s with trace := l } = .next u ∧ { u with trace := [] } = { t with trace := [] }

/-- In an end state of a run no step of HOST, SEQ or BC is enabled and no dispatcher invocation is owed
(70_reset_and_hazards.md section 5); of the wire events only those of ENV alone remain. A run is made of steps of the
machine, its program's operations are issued in order, and it has at most one end. Which transfer counts as the last
is the model's reading (log 23). -/
def Obligations.EndStateIsQuiet : Prop :=
  (∀ (h : State → Option HostAct) (p : RunPoint), EndState p →
    p.state.irqEv = false ∧ p.state.irqEr = false ∧ p.take h .host = p ∧ p.take h .seq = p ∧
    ∀ e : WireEvent, (∀ (a7 : Addr7) (rw : Bool), e ≠ .eAddress a7 rw) → (∀ f : ErrFlag, e ≠ .err f) →
      p.take h (.wire e) = p) ∧
  (∀ (h : State → Option HostAct) (p : RunPoint) (u : Turn), p.take h u ≠ p →
    ∃ m : Move, Runs m p.state (p.take h u).state ∧
      ((p.take h u).todo = p.todo ∨
        ∃ a : HostAct, m = .host a ∧ p.state.seqMode = .idle ∧ p.todo = a :: (p.take h u).todo)) ∧
  ∀ (r : Run) (m n : Nat), r.endsAt m → r.endsAt n → m = n
end

