-- ==== Sys2Proof/Laws/Memory.lean ====
section
/-! SUPPORT. The laws of buffer memory: read after write, and the canonical form kept. -/

namespace Sys2Proof.Machine

theorem Memory.get_cons (a : Nat) (v : Byte) (m : List Host.Cell) (b : Nat)
    (h : Memory.get m a = Memory.unlisted) :
    Memory.get (Memory.cons a v m) b = if a = b then v else Memory.get m b := by
  unfold Memory.cons
  split <;> rename_i hv
  · split <;> simp_all
  · simp [Memory.get]

/-- A canonical memory from `lo` holds no unit below `lo`. -/
theorem Memory.get_below (m : List Host.Cell) (lo b : Nat) (hw : Memory.wfFrom lo m = true) (hb : b < lo) :
    Memory.get m b = Memory.unlisted := by
  induction m generalizing lo with
  | nil => rfl
  | cons c m ih =>
    obtain ⟨k, x⟩ := c
    simp only [Memory.wfFrom, Bool.and_eq_true, decide_eq_true_eq] at hw
    have hk : k ≠ b := by omega
    simp only [Memory.get, if_neg hk]
    exact ih (k + 1) hw.2 (by omega)

/-- Read after write, at every address. -/
theorem Memory.get_set (m : List Host.Cell) (lo a b : Nat) (v : Byte) (hw : Memory.wfFrom lo m = true) :
    Memory.get (Memory.set m a v) b = if a = b then v else Memory.get m b := by
  induction m generalizing lo with
  | nil => exact Memory.get_cons a v [] b rfl
  | cons c m ih =>
    obtain ⟨k, x⟩ := c
    have hw' := hw
    simp only [Memory.wfFrom, Bool.and_eq_true, decide_eq_true_eq] at hw
    obtain ⟨⟨⟨-, -⟩, -⟩, hm⟩ := hw
    unfold Memory.set
    split
    · simp only [Memory.get, ih (k + 1) hm]
      grind
    · split
      · rename_i hka
        subst hka
        rw [Memory.get_cons k v m b (Memory.get_below m (k + 1) k hm (by omega))]
        simp only [Memory.get]
        grind
      · have hb : Memory.get ((k, x) :: m) a = Memory.unlisted := by
          simp only [Memory.get]
          rw [if_neg (by omega)]
          exact Memory.get_below m (k + 1) a hm (by omega)
        exact Memory.get_cons a v _ b hb

theorem Memory.wfFrom_mono (m : List Host.Cell) (lo lo' : Nat) (h : lo' ≤ lo)
    (hw : Memory.wfFrom lo m = true) : Memory.wfFrom lo' m = true := by
  cases m with
  | nil => rfl
  | cons c m =>
    simp only [Memory.wfFrom, Bool.and_eq_true, decide_eq_true_eq] at *
    exact ⟨⟨⟨by omega, hw.1.1.2⟩, hw.1.2⟩, hw.2⟩

theorem Memory.wfFrom_cons (m : List Host.Cell) (lo a : Nat) (v : Byte) (hlo : lo ≤ a) (ha : a < 2 ^ 32)
    (hw : Memory.wfFrom (a + 1) m = true) : Memory.wfFrom lo (Memory.cons a v m) = true := by
  unfold Memory.cons
  split
  · exact Memory.wfFrom_mono m (a + 1) lo (by omega) hw
  · rename_i hv
    simp only [Memory.wfFrom, Bool.and_eq_true, decide_eq_true_eq]
    exact ⟨⟨⟨hlo, ha⟩, hv⟩, hw⟩

/-- A write keeps the canonical form. -/
theorem Memory.wfFrom_set (m : List Host.Cell) (lo a : Nat) (v : Byte) (hlo : lo ≤ a) (ha : a < 2 ^ 32)
    (hw : Memory.wfFrom lo m = true) : Memory.wfFrom lo (Memory.set m a v) = true := by
  induction m generalizing lo with
  | nil => exact Memory.wfFrom_cons [] lo a v hlo ha rfl
  | cons c m ih =>
    obtain ⟨k, x⟩ := c
    have hw' := hw
    simp only [Memory.wfFrom, Bool.and_eq_true, decide_eq_true_eq] at hw
    obtain ⟨⟨⟨hk, hk32⟩, hx⟩, hm⟩ := hw
    unfold Memory.set
    split
    · simp only [Memory.wfFrom, Bool.and_eq_true, decide_eq_true_eq]
      exact ⟨⟨⟨hk, hk32⟩, hx⟩, ih (k + 1) (by omega) hm⟩
    · split
      · rename_i hka
        subst hka
        exact Memory.wfFrom_cons m lo k v hlo ha hm
      · refine Memory.wfFrom_cons _ lo a v hlo ha ?_
        simp only [Memory.wfFrom, Bool.and_eq_true, decide_eq_true_eq]
        exact ⟨⟨⟨by omega, hk32⟩, hx⟩, hm⟩

theorem Memory.wf_nil : Memory.wf [] = true := rfl

theorem Memory.wf_set (m : List Host.Cell) (a : Word) (v : Byte) (hw : Memory.wf m = true) :
    Memory.wf (Memory.set m a.toNat v) = true :=
  Memory.wfFrom_set m 0 a.toNat v (Nat.zero_le _) a.isLt hw

/-- The unit at `b` after the unit at `a` is written. -/
theorem State.memAt_memPut (s : State) (a b : Word) (v : Byte) (hw : Memory.wf s.mem = true) :
    (s.memPut a v).memAt b = if a = b then v else s.memAt b := by
  simp only [State.memAt, State.memPut, Memory.get_set s.mem 0 a.toNat b.toNat v hw, ← BitVec.toNat_inj]

theorem memWrite_wf (s : State) (a : Word) (v : Byte) (hw : Memory.wf s.mem = true) :
    Memory.wf (memWrite a v s).mem = true :=
  Memory.wf_set s.mem a v hw

end Sys2Proof.Machine
end

