-- ==== Sys2Proof/Laws/State.lean ====
section
/-! SUPPORT. The fields of a state under the named updates `log`, `setResult`, `memPut` and `offer`. -/

namespace Sys2Proof.Machine

section
variable (s : State) (e : Rec) (v : Byte) (st : BitVec 2) (a : Word) (m : Move)

@[simp] theorem State.log_role : (s.log e).role = s.role := rfl
@[simp] theorem State.log_cursor : (s.log e).cursor = s.cursor := rfl
@[simp] theorem State.log_remain : (s.log e).remain = s.remain := rfl
@[simp] theorem State.log_taddr : (s.log e).taddr = s.taddr := rfl
@[simp] theorem State.log_rs : (s.log e).rs = s.rs := rfl
@[simp] theorem State.log_fs : (s.log e).fs = s.fs := rfl
@[simp] theorem State.log_duty : (s.log e).duty = s.duty := rfl
@[simp] theorem State.log_own : (s.log e).own = s.own := rfl
@[simp] theorem State.log_pe : (s.log e).pe = s.pe := rfl
@[simp] theorem State.log_start : (s.log e).start = s.start := rfl
@[simp] theorem State.log_stop : (s.log e).stop = s.stop := rfl
@[simp] theorem State.log_ack : (s.log e).ack = s.ack := rfl
@[simp] theorem State.log_clken : (s.log e).clken = s.clken := rfl
@[simp] theorem State.log_iterren : (s.log e).iterren = s.iterren := rfl
@[simp] theorem State.log_itevten : (s.log e).itevten = s.itevten := rfl
@[simp] theorem State.log_itbufen : (s.log e).itbufen = s.itbufen := rfl
@[simp] theorem State.log_dr : (s.log e).dr = s.dr := rfl
@[simp] theorem State.log_sb : (s.log e).sb = s.sb := rfl
@[simp] theorem State.log_addr : (s.log e).addr = s.addr := rfl
@[simp] theorem State.log_btf : (s.log e).btf = s.btf := rfl
@[simp] theorem State.log_stopf : (s.log e).stopf = s.stopf := rfl
@[simp] theorem State.log_rxne : (s.log e).rxne = s.rxne := rfl
@[simp] theorem State.log_txe : (s.log e).txe = s.txe := rfl
@[simp] theorem State.log_berr : (s.log e).berr = s.berr := rfl
@[simp] theorem State.log_arlo : (s.log e).arlo = s.arlo := rfl
@[simp] theorem State.log_af : (s.log e).af = s.af := rfl
@[simp] theorem State.log_ovr : (s.log e).ovr = s.ovr := rfl
@[simp] theorem State.log_timeout : (s.log e).timeout = s.timeout := rfl
@[simp] theorem State.log_msl : (s.log e).msl = s.msl := rfl
@[simp] theorem State.log_busy : (s.log e).busy = s.busy := rfl
@[simp] theorem State.log_tra : (s.log e).tra = s.tra := rfl
@[simp] theorem State.log_shift : (s.log e).shift = s.shift := rfl
@[simp] theorem State.log_shTx : (s.log e).shTx = s.shTx := rfl
@[simp] theorem State.log_shRx : (s.log e).shRx = s.shRx := rfl
@[simp] theorem State.log_phase : (s.log e).phase = s.phase := rfl
@[simp] theorem State.log_nacked : (s.log e).nacked = s.nacked := rfl
@[simp] theorem State.log_addrRd : (s.log e).addrRd = s.addrRd := rfl
@[simp] theorem State.log_seqMode : (s.log e).seqMode = s.seqMode := rfl
@[simp] theorem State.log_cbw : (s.log e).cbw = s.cbw := rfl
@[simp] theorem State.log_bop : (s.log e).bop = s.bop := rfl
@[simp] theorem State.log_bpc : (s.log e).bpc = s.bpc := rfl
@[simp] theorem State.log_dpc : (s.log e).dpc = s.dpc := rfl
@[simp] theorem State.log_wCur : (s.log e).wCur = s.wCur := rfl
@[simp] theorem State.log_wLen : (s.log e).wLen = s.wLen := rfl
@[simp] theorem State.log_wAddr : (s.log e).wAddr = s.wAddr := rfl
@[simp] theorem State.log_wRs : (s.log e).wRs = s.wRs := rfl
@[simp] theorem State.log_wFailed : (s.log e).wFailed = s.wFailed := rfl
@[simp] theorem State.log_cbEn : (s.log e).cbEn = s.cbEn := rfl
@[simp] theorem State.log_opBuf : (s.log e).opBuf = s.opBuf := rfl
@[simp] theorem State.log_opLen : (s.log e).opLen = s.opLen := rfl
@[simp] theorem State.log_cmd : (s.log e).cmd = s.cmd := rfl
@[simp] theorem State.log_resVal : (s.log e).resVal = s.resVal := rfl
@[simp] theorem State.log_resSt : (s.log e).resSt = s.resSt := rfl
@[simp] theorem State.log_trace : (s.log e).trace = s.trace ++ [e] := rfl
@[simp] theorem State.log_rdata : (s.log e).rdata = s.rdata := rfl
@[simp] theorem State.log_cbValid : (s.log e).cbValid = s.cbValid := rfl
@[simp] theorem State.log_cbCode : (s.log e).cbCode = s.cbCode := rfl
@[simp] theorem State.log_mem : (s.log e).mem = s.mem := rfl
@[simp] theorem State.log_schedule : (s.log e).schedule = s.schedule := rfl
@[simp] theorem State.log_tick : (s.log e).tick = s.tick := rfl

@[simp] theorem State.setResult_role : (s.setResult v st).role = s.role := rfl
@[simp] theorem State.setResult_cursor : (s.setResult v st).cursor = s.cursor := rfl
@[simp] theorem State.setResult_remain : (s.setResult v st).remain = s.remain := rfl
@[simp] theorem State.setResult_taddr : (s.setResult v st).taddr = s.taddr := rfl
@[simp] theorem State.setResult_rs : (s.setResult v st).rs = s.rs := rfl
@[simp] theorem State.setResult_fs : (s.setResult v st).fs = s.fs := rfl
@[simp] theorem State.setResult_duty : (s.setResult v st).duty = s.duty := rfl
@[simp] theorem State.setResult_own : (s.setResult v st).own = s.own := rfl
@[simp] theorem State.setResult_pe : (s.setResult v st).pe = s.pe := rfl
@[simp] theorem State.setResult_start : (s.setResult v st).start = s.start := rfl
@[simp] theorem State.setResult_stop : (s.setResult v st).stop = s.stop := rfl
@[simp] theorem State.setResult_ack : (s.setResult v st).ack = s.ack := rfl
@[simp] theorem State.setResult_clken : (s.setResult v st).clken = s.clken := rfl
@[simp] theorem State.setResult_iterren : (s.setResult v st).iterren = s.iterren := rfl
@[simp] theorem State.setResult_itevten : (s.setResult v st).itevten = s.itevten := rfl
@[simp] theorem State.setResult_itbufen : (s.setResult v st).itbufen = s.itbufen := rfl
@[simp] theorem State.setResult_dr : (s.setResult v st).dr = s.dr := rfl
@[simp] theorem State.setResult_sb : (s.setResult v st).sb = s.sb := rfl
@[simp] theorem State.setResult_addr : (s.setResult v st).addr = s.addr := rfl
@[simp] theorem State.setResult_btf : (s.setResult v st).btf = s.btf := rfl
@[simp] theorem State.setResult_stopf : (s.setResult v st).stopf = s.stopf := rfl
@[simp] theorem State.setResult_rxne : (s.setResult v st).rxne = s.rxne := rfl
@[simp] theorem State.setResult_txe : (s.setResult v st).txe = s.txe := rfl
@[simp] theorem State.setResult_berr : (s.setResult v st).berr = s.berr := rfl
@[simp] theorem State.setResult_arlo : (s.setResult v st).arlo = s.arlo := rfl
@[simp] theorem State.setResult_af : (s.setResult v st).af = s.af := rfl
@[simp] theorem State.setResult_ovr : (s.setResult v st).ovr = s.ovr := rfl
@[simp] theorem State.setResult_timeout : (s.setResult v st).timeout = s.timeout := rfl
@[simp] theorem State.setResult_msl : (s.setResult v st).msl = s.msl := rfl
@[simp] theorem State.setResult_busy : (s.setResult v st).busy = s.busy := rfl
@[simp] theorem State.setResult_tra : (s.setResult v st).tra = s.tra := rfl
@[simp] theorem State.setResult_shift : (s.setResult v st).shift = s.shift := rfl
@[simp] theorem State.setResult_shTx : (s.setResult v st).shTx = s.shTx := rfl
@[simp] theorem State.setResult_shRx : (s.setResult v st).shRx = s.shRx := rfl
@[simp] theorem State.setResult_phase : (s.setResult v st).phase = s.phase := rfl
@[simp] theorem State.setResult_nacked : (s.setResult v st).nacked = s.nacked := rfl
@[simp] theorem State.setResult_addrRd : (s.setResult v st).addrRd = s.addrRd := rfl
@[simp] theorem State.setResult_seqMode : (s.setResult v st).seqMode = s.seqMode := rfl
@[simp] theorem State.setResult_cbw : (s.setResult v st).cbw = s.cbw := rfl
@[simp] theorem State.setResult_bop : (s.setResult v st).bop = s.bop := rfl
@[simp] theorem State.setResult_bpc : (s.setResult v st).bpc = s.bpc := rfl
@[simp] theorem State.setResult_dpc : (s.setResult v st).dpc = s.dpc := rfl
@[simp] theorem State.setResult_wCur : (s.setResult v st).wCur = s.wCur := rfl
@[simp] theorem State.setResult_wLen : (s.setResult v st).wLen = s.wLen := rfl
@[simp] theorem State.setResult_wAddr : (s.setResult v st).wAddr = s.wAddr := rfl
@[simp] theorem State.setResult_wRs : (s.setResult v st).wRs = s.wRs := rfl
@[simp] theorem State.setResult_wFailed : (s.setResult v st).wFailed = s.wFailed := rfl
@[simp] theorem State.setResult_cbEn : (s.setResult v st).cbEn = s.cbEn := rfl
@[simp] theorem State.setResult_opBuf : (s.setResult v st).opBuf = s.opBuf := rfl
@[simp] theorem State.setResult_opLen : (s.setResult v st).opLen = s.opLen := rfl
@[simp] theorem State.setResult_cmd : (s.setResult v st).cmd = s.cmd := rfl
@[simp] theorem State.setResult_resVal : (s.setResult v st).resVal = v := rfl
@[simp] theorem State.setResult_resSt : (s.setResult v st).resSt = st := rfl
@[simp] theorem State.setResult_trace : (s.setResult v st).trace = s.trace := rfl
@[simp] theorem State.setResult_rdata : (s.setResult v st).rdata = s.rdata := rfl
@[simp] theorem State.setResult_cbValid : (s.setResult v st).cbValid = s.cbValid := rfl
@[simp] theorem State.setResult_cbCode : (s.setResult v st).cbCode = s.cbCode := rfl
@[simp] theorem State.setResult_mem : (s.setResult v st).mem = s.mem := rfl
@[simp] theorem State.setResult_schedule : (s.setResult v st).schedule = s.schedule := rfl
@[simp] theorem State.setResult_tick : (s.setResult v st).tick = s.tick := rfl

@[simp] theorem State.memPut_role : (s.memPut a v).role = s.role := rfl
@[simp] theorem State.memPut_cursor : (s.memPut a v).cursor = s.cursor := rfl
@[simp] theorem State.memPut_remain : (s.memPut a v).remain = s.remain := rfl
@[simp] theorem State.memPut_taddr : (s.memPut a v).taddr = s.taddr := rfl
@[simp] theorem State.memPut_rs : (s.memPut a v).rs = s.rs := rfl
@[simp] theorem State.memPut_fs : (s.memPut a v).fs = s.fs := rfl
@[simp] theorem State.memPut_duty : (s.memPut a v).duty = s.duty := rfl
@[simp] theorem State.memPut_own : (s.memPut a v).own = s.own := rfl
@[simp] theorem State.memPut_pe : (s.memPut a v).pe = s.pe := rfl
@[simp] theorem State.memPut_start : (s.memPut a v).start = s.start := rfl
@[simp] theorem State.memPut_stop : (s.memPut a v).stop = s.stop := rfl
@[simp] theorem State.memPut_ack : (s.memPut a v).ack = s.ack := rfl
@[simp] theorem State.memPut_clken : (s.memPut a v).clken = s.clken := rfl
@[simp] theorem State.memPut_iterren : (s.memPut a v).iterren = s.iterren := rfl
@[simp] theorem State.memPut_itevten : (s.memPut a v).itevten = s.itevten := rfl
@[simp] theorem State.memPut_itbufen : (s.memPut a v).itbufen = s.itbufen := rfl
@[simp] theorem State.memPut_dr : (s.memPut a v).dr = s.dr := rfl
@[simp] theorem State.memPut_sb : (s.memPut a v).sb = s.sb := rfl
@[simp] theorem State.memPut_addr : (s.memPut a v).addr = s.addr := rfl
@[simp] theorem State.memPut_btf : (s.memPut a v).btf = s.btf := rfl
@[simp] theorem State.memPut_stopf : (s.memPut a v).stopf = s.stopf := rfl
@[simp] theorem State.memPut_rxne : (s.memPut a v).rxne = s.rxne := rfl
@[simp] theorem State.memPut_txe : (s.memPut a v).txe = s.txe := rfl
@[simp] theorem State.memPut_berr : (s.memPut a v).berr = s.berr := rfl
@[simp] theorem State.memPut_arlo : (s.memPut a v).arlo = s.arlo := rfl
@[simp] theorem State.memPut_af : (s.memPut a v).af = s.af := rfl
@[simp] theorem State.memPut_ovr : (s.memPut a v).ovr = s.ovr := rfl
@[simp] theorem State.memPut_timeout : (s.memPut a v).timeout = s.timeout := rfl
@[simp] theorem State.memPut_msl : (s.memPut a v).msl = s.msl := rfl
@[simp] theorem State.memPut_busy : (s.memPut a v).busy = s.busy := rfl
@[simp] theorem State.memPut_tra : (s.memPut a v).tra = s.tra := rfl
@[simp] theorem State.memPut_shift : (s.memPut a v).shift = s.shift := rfl
@[simp] theorem State.memPut_shTx : (s.memPut a v).shTx = s.shTx := rfl
@[simp] theorem State.memPut_shRx : (s.memPut a v).shRx = s.shRx := rfl
@[simp] theorem State.memPut_phase : (s.memPut a v).phase = s.phase := rfl
@[simp] theorem State.memPut_nacked : (s.memPut a v).nacked = s.nacked := rfl
@[simp] theorem State.memPut_addrRd : (s.memPut a v).addrRd = s.addrRd := rfl
@[simp] theorem State.memPut_seqMode : (s.memPut a v).seqMode = s.seqMode := rfl
@[simp] theorem State.memPut_cbw : (s.memPut a v).cbw = s.cbw := rfl
@[simp] theorem State.memPut_bop : (s.memPut a v).bop = s.bop := rfl
@[simp] theorem State.memPut_bpc : (s.memPut a v).bpc = s.bpc := rfl
@[simp] theorem State.memPut_dpc : (s.memPut a v).dpc = s.dpc := rfl
@[simp] theorem State.memPut_wCur : (s.memPut a v).wCur = s.wCur := rfl
@[simp] theorem State.memPut_wLen : (s.memPut a v).wLen = s.wLen := rfl
@[simp] theorem State.memPut_wAddr : (s.memPut a v).wAddr = s.wAddr := rfl
@[simp] theorem State.memPut_wRs : (s.memPut a v).wRs = s.wRs := rfl
@[simp] theorem State.memPut_wFailed : (s.memPut a v).wFailed = s.wFailed := rfl
@[simp] theorem State.memPut_cbEn : (s.memPut a v).cbEn = s.cbEn := rfl
@[simp] theorem State.memPut_opBuf : (s.memPut a v).opBuf = s.opBuf := rfl
@[simp] theorem State.memPut_opLen : (s.memPut a v).opLen = s.opLen := rfl
@[simp] theorem State.memPut_cmd : (s.memPut a v).cmd = s.cmd := rfl
@[simp] theorem State.memPut_resVal : (s.memPut a v).resVal = s.resVal := rfl
@[simp] theorem State.memPut_resSt : (s.memPut a v).resSt = s.resSt := rfl
@[simp] theorem State.memPut_trace : (s.memPut a v).trace = s.trace := rfl
@[simp] theorem State.memPut_rdata : (s.memPut a v).rdata = s.rdata := rfl
@[simp] theorem State.memPut_cbValid : (s.memPut a v).cbValid = s.cbValid := rfl
@[simp] theorem State.memPut_cbCode : (s.memPut a v).cbCode = s.cbCode := rfl
@[simp] theorem State.memPut_mem : (s.memPut a v).mem = Memory.set s.mem a.toNat v := rfl
@[simp] theorem State.memPut_schedule : (s.memPut a v).schedule = s.schedule := rfl
@[simp] theorem State.memPut_tick : (s.memPut a v).tick = s.tick := rfl

@[simp] theorem State.offer_role : (s.offer m).role = s.role := rfl
@[simp] theorem State.offer_cursor : (s.offer m).cursor = s.cursor := rfl
@[simp] theorem State.offer_remain : (s.offer m).remain = s.remain := rfl
@[simp] theorem State.offer_taddr : (s.offer m).taddr = s.taddr := rfl
@[simp] theorem State.offer_rs : (s.offer m).rs = s.rs := rfl
@[simp] theorem State.offer_fs : (s.offer m).fs = s.fs := rfl
@[simp] theorem State.offer_duty : (s.offer m).duty = s.duty := rfl
@[simp] theorem State.offer_own : (s.offer m).own = s.own := rfl
@[simp] theorem State.offer_pe : (s.offer m).pe = s.pe := rfl
@[simp] theorem State.offer_start : (s.offer m).start = s.start := rfl
@[simp] theorem State.offer_stop : (s.offer m).stop = s.stop := rfl
@[simp] theorem State.offer_ack : (s.offer m).ack = s.ack := rfl
@[simp] theorem State.offer_clken : (s.offer m).clken = s.clken := rfl
@[simp] theorem State.offer_iterren : (s.offer m).iterren = s.iterren := rfl
@[simp] theorem State.offer_itevten : (s.offer m).itevten = s.itevten := rfl
@[simp] theorem State.offer_itbufen : (s.offer m).itbufen = s.itbufen := rfl
@[simp] theorem State.offer_dr : (s.offer m).dr = s.dr := rfl
@[simp] theorem State.offer_sb : (s.offer m).sb = s.sb := rfl
@[simp] theorem State.offer_addr : (s.offer m).addr = s.addr := rfl
@[simp] theorem State.offer_btf : (s.offer m).btf = s.btf := rfl
@[simp] theorem State.offer_stopf : (s.offer m).stopf = s.stopf := rfl
@[simp] theorem State.offer_rxne : (s.offer m).rxne = s.rxne := rfl
@[simp] theorem State.offer_txe : (s.offer m).txe = s.txe := rfl
@[simp] theorem State.offer_berr : (s.offer m).berr = s.berr := rfl
@[simp] theorem State.offer_arlo : (s.offer m).arlo = s.arlo := rfl
@[simp] theorem State.offer_af : (s.offer m).af = s.af := rfl
@[simp] theorem State.offer_ovr : (s.offer m).ovr = s.ovr := rfl
@[simp] theorem State.offer_timeout : (s.offer m).timeout = s.timeout := rfl
@[simp] theorem State.offer_msl : (s.offer m).msl = s.msl := rfl
@[simp] theorem State.offer_busy : (s.offer m).busy = s.busy := rfl
@[simp] theorem State.offer_tra : (s.offer m).tra = s.tra := rfl
@[simp] theorem State.offer_shift : (s.offer m).shift = s.shift := rfl
@[simp] theorem State.offer_shTx : (s.offer m).shTx = s.shTx := rfl
@[simp] theorem State.offer_shRx : (s.offer m).shRx = s.shRx := rfl
@[simp] theorem State.offer_phase : (s.offer m).phase = s.phase := rfl
@[simp] theorem State.offer_nacked : (s.offer m).nacked = s.nacked := rfl
@[simp] theorem State.offer_addrRd : (s.offer m).addrRd = s.addrRd := rfl
@[simp] theorem State.offer_seqMode : (s.offer m).seqMode = s.seqMode := rfl
@[simp] theorem State.offer_cbw : (s.offer m).cbw = s.cbw := rfl
@[simp] theorem State.offer_bop : (s.offer m).bop = s.bop := rfl
@[simp] theorem State.offer_bpc : (s.offer m).bpc = s.bpc := rfl
@[simp] theorem State.offer_dpc : (s.offer m).dpc = s.dpc := rfl
@[simp] theorem State.offer_wCur : (s.offer m).wCur = s.wCur := rfl
@[simp] theorem State.offer_wLen : (s.offer m).wLen = s.wLen := rfl
@[simp] theorem State.offer_wAddr : (s.offer m).wAddr = s.wAddr := rfl
@[simp] theorem State.offer_wRs : (s.offer m).wRs = s.wRs := rfl
@[simp] theorem State.offer_wFailed : (s.offer m).wFailed = s.wFailed := rfl
@[simp] theorem State.offer_cbEn : (s.offer m).cbEn = s.cbEn := rfl
@[simp] theorem State.offer_opBuf : (s.offer m).opBuf = s.opBuf := rfl
@[simp] theorem State.offer_opLen : (s.offer m).opLen = s.opLen := rfl
@[simp] theorem State.offer_cmd : (s.offer m).cmd = s.cmd := rfl
@[simp] theorem State.offer_resVal : (s.offer m).resVal = s.resVal := rfl
@[simp] theorem State.offer_resSt : (s.offer m).resSt = s.resSt := rfl
@[simp] theorem State.offer_trace : (s.offer m).trace = s.trace := rfl
@[simp] theorem State.offer_rdata : (s.offer m).rdata = s.rdata := rfl
@[simp] theorem State.offer_cbValid : (s.offer m).cbValid = s.cbValid := rfl
@[simp] theorem State.offer_cbCode : (s.offer m).cbCode = s.cbCode := rfl
@[simp] theorem State.offer_mem : (s.offer m).mem = s.mem := rfl
@[simp] theorem State.offer_schedule : (s.offer m).schedule = m :: s.schedule := rfl
@[simp] theorem State.offer_tick : (s.offer m).tick = s.tick := rfl

@[simp] theorem nextMove_offer : nextMove (s.offer m) = m := rfl
@[simp] theorem takeMove_offer : takeMove (s.offer m) = s := rfl

end

end Sys2Proof.Machine
end

