-- ==== Sys2Proof/Laws/Ops.lean ====
section
/-! SUPPORT. One lemma per shared operation: everything it can do. Proofs about a meaning or a
micro-operation cite these and unfold nothing below them. -/

namespace Sys2Proof.Machine

/-! ### Steps and moves -/

theorem step_offer (m : Move) (s : State) : step (s.offer m) = perform m s := rfl

theorem runs_iff (m : Move) (s t : State) : Runs m s t ↔ perform m s = .next t := Iff.rfl

theorem command_ok {w : Word} {i : Instr} (h : decode w = .ok i) (s : State) :
    command w s = exec i { s with cmd := w } := by
  simp only [command, h]

theorem command_error {w : Word} {e : DecodeError} (h : decode w = .error e) (s : State) :
    command w s = .next (illegal w { s with cmd := w }) := by
  simp only [command, h]

/-- A `CMD` write where HOST can issue an operation. -/
theorem perform_cmdMove {s : State} (h : s.hostReady) (w : Word) : perform (cmdMove w) s = command w s := by
  simp only [cmdMove, perform, hostMove, if_pos h]
  rfl

theorem perform_host_blocked {s : State} (h : ¬ s.hostReady) (width : PortWidth) (off : Offset) (w : Word) :
    perform (.host (.portRead width off)) s = .next s ∧
      perform (.host (.portWrite width off w)) s = .next s := by
  simp only [perform, hostMove, if_neg h, and_self]

theorem wireMove_enabled {e : WireEvent} {s : State} (h : wireEnabled e s) : wireMove e s = wireEffect e s :=
  if_pos h

theorem wireMove_disabled {e : WireEvent} {s : State} (h : ¬ wireEnabled e s) : wireMove e s = s :=
  if_neg h

/-- SEQ's step while it may move. -/
theorem seqMove_running {s : State} (hc : s.clken = true) (hw : s.cbw = false) :
    seqMove s = match s.seqMode with
      | .idle => s
      | .blk => blockingStep s
      | .ev => dispatcherStep s
      | .er => dispatcherStep s :=
  if_neg (by simp [hc, hw])

theorem seqMove_waiting {s : State} (h : s.clken = false ∨ s.cbw = true) : seqMove s = s :=
  if_pos h

/-! ### Runs -/

theorem afterMove_eq {m : Move} {s t : State} (h : Runs m s t) : s.afterMove m = t := by
  rw [runs_iff] at h
  simp only [State.afterMove, h]

@[simp] theorem moveTo_state (p : RunPoint) (m : Move) (l : List HostAct) :
    (p.moveTo m l).state = p.state.afterMove m := rfl
@[simp] theorem moveTo_todo (p : RunPoint) (m : Move) (l : List HostAct) : (p.moveTo m l).todo = l := rfl

/-- Where the state is in no transfer the choice is that of the one before. -/
theorem transferRs_atRest {s : State} (hm : s.seqMode ≠ .blk) (hr : s.role = .ready) (before : Bool) :
    s.transferRs before = before := by
  unfold State.transferRs
  rw [if_neg hm, if_pos hr]

/-- At a point in no transfer a move that changes nothing of the state leaves the point as it is. -/
theorem moveTo_same {p : RunPoint} {m : Move} (h : p.state.afterMove m = p.state)
    (hm : p.state.seqMode ≠ .blk) (hr : p.state.role = .ready) : p.moveTo m p.todo = p := by
  simp only [RunPoint.moveTo, h, transferRs_atRest hm hr]

/-! ### `illegal()` and the legality test -/

theorem illegal_eq (w : Word) (s : State) : illegal w s = s.afterIllegal w := rfl

theorem issue_legal {p : Prop} [Decidable p] (h : p) (w : Word) (s t : State) : issue p w s t = .next t := by
  simp only [issue, if_pos h]

theorem issue_illegal {p : Prop} [Decidable p] (h : ¬ p) (w : Word) (s t : State) :
    issue p w s t = .next (s.afterIllegal w) := by
  simp only [issue, if_neg h, illegal_eq]

/-! ### Data register -/

theorem drRead_eq (s : State) : drRead s = { s with
    dr := if s.shRx then s.shift else s.dr, shRx := false, btf := if s.shRx then false else s.btf,
    rxne := if s.shRx then s.rxne else false, trace := s.trace ++ [.drr s.dr] } := by
  unfold drRead
  cases s.shRx <;> simp [State.log]

/-- Everything `DR_WRITE` may change. -/
theorem drWrite_frame (v : Byte) (s : State) : drWrite v s = { s with
    dr := v, sb := false, btf := (drWrite v s).btf, txe := (drWrite v s).txe, shift := (drWrite v s).shift,
    shTx := (drWrite v s).shTx, shRx := (drWrite v s).shRx, phase := (drWrite v s).phase,
    trace := s.trace ++ [.drw v] } := by
  unfold drWrite
  cases hb : s.sb
  · by_cases h : s.tra = true ∧ (s.phase = .mTx ∨ s.phase = .sTx) ∧ s.addr = false
    · cases s.shTx <;> simp [State.log, h]
    · simp [State.log, h]
  · simp [State.log]

/-! ### Flags and bus conditions -/

theorem clearAddrOp_eq (s : State) : clearAddrOp s = { s with
    ack := if s.role = .busyRx ∧ s.remain = 1 then false else s.ack,
    addr := false, addrRd := if s.addr then false else s.addrRd,
    txe := if s.addr && s.tra then true else s.txe,
    trace := s.trace ++ (if s.role = .busyRx ∧ s.remain = 1 then [.prim .ackDis] else []) ++
      [.prim .clearAddr] } := by
  unfold clearAddrOp
  by_cases h : s.role = .busyRx ∧ s.remain = 1
  · simp only [if_pos h]
    cases ha : s.addr <;> simp [ha, ackDisOp, State.log, State.releaseAddr]
  · simp only [if_neg h]
    cases ha : s.addr <;> simp [ha, State.log, State.releaseAddr]

theorem doStop_eq (s : State) : doStop s = { s with
    txe := if s.tra then false else s.txe, btf := if s.tra then false else s.btf,
    shTx := if s.tra then false else s.shTx, stop := false, sb := false, msl := false, busy := false,
    tra := false, phase := .idle, nacked := false } := by
  unfold doStop
  cases s.tra <;> simp

theorem stopUnless_eq (rs : Bool) (s : State) : stopUnless rs s = { s with
    stop := if rs then s.stop else true,
    trace := s.trace ++ (if rs then [] else [.prim .stopReq]) } := by
  cases rs <;> simp [stopUnless, stopReqOp, State.log]

/-! ### A write of `CTRL` -/

/-- What bit 0 of a write of `CTRL` can do. -/
theorem writePe_eq (w : Word) (s : State) : writePe w s = { s with
    pe := w.getLsbD 0 || (s.pe && !disablesPe w s),
    start := s.start && !disablesPe w s, stop := s.stop && !disablesPe w s,
    trace := s.trace ++ ((if w.getLsbD 0 && !s.pe then [.prim .peEn] else []) ++
      (if disablesPe w s then [.prim .peDis] else [])) } := by
  have h : w.getLsbD 0 = true → disablesPe w s = false := fun h => by simp [disablesPe, h]
  unfold writePe
  generalize disablesPe w s = d at h ⊢
  cases s with
  | mk _ _ _ _ _ _ _ _ pe =>
    cases h0 : w.getLsbD 0 <;> cases pe <;> cases d <;> simp_all [peEnOp, peDisOp, State.log]

/-- What bit 10 of a write of `CTRL` can do. -/
theorem writeAck_eq (w : Word) (s : State) : writeAck w s = { s with
    ack := w.getLsbD 10,
    trace := s.trace ++ ((if w.getLsbD 10 && !s.ack then [.prim .ackEn] else []) ++
      (if !w.getLsbD 10 && s.ack then [.prim .ackDis] else [])) } := by
  unfold writeAck
  cases s with
  | mk _ _ _ _ _ _ _ _ _ _ _ ack => cases w.getLsbD 10 <;> cases ack <;> simp [ackEnOp, ackDisOp, State.log]

/-- What a write of `CTRL` can do. -/
theorem writeCtrl_eq (w : Word) (s : State) : writeCtrl w s = { s with
    pe := w.getLsbD 0 || (s.pe && !disablesPe w s), ack := w.getLsbD 10,
    start := w.getLsbD 8 || (s.start && !disablesPe w s),
    stop := w.getLsbD 9 || (s.stop && !disablesPe w s),
    trace := s.trace ++ ((if w.getLsbD 0 && !s.pe then [.prim .peEn] else []) ++
      (if disablesPe w s then [.prim .peDis] else []) ++
      (if w.getLsbD 10 && !s.ack then [.prim .ackEn] else []) ++
      (if !w.getLsbD 10 && s.ack then [.prim .ackDis] else []) ++
      (if w.getLsbD 8 then [.prim .startReq] else []) ++
      (if w.getLsbD 9 then [.prim .stopReq] else [])) } := by
  simp only [writeCtrl, writeAck_eq, writePe_eq]
  cases w.getLsbD 8 <;> cases w.getLsbD 9 <;> simp [startReqOp, stopReqOp, State.log]

/-! ### Blocking operations -/

theorem not_hostReady_of_hung {s : State} (h : s.hung) : ¬ s.hostReady := by
  simp [State.hostReady, h.1.1, h.1.2.1]

/-- SEQ's step of an operation whose transfer has failed. -/
theorem blockingStep_hung {s : State} (h : s.hung) : blockingStep s = s := by
  have hf : ¬ s.wFailed = false := by simp [h.2]
  obtain ⟨⟨-, -, hb | hb | hb | hb | ⟨hb | hb, hl⟩⟩, -⟩ := h <;> rw [blockingStep, hb]
  · exact if_neg fun h => hf h.2
  · exact if_neg fun h => hf h.2
  · exact if_neg fun h => hf h.2.2
  · exact if_neg fun h => hf h.2
  · exact (if_neg hl).trans (if_neg fun h => hf h.2)
  · exact (if_neg hl).trans (if_neg fun h => hf h.2)

/-! ### Session and dispatcher -/

theorem closeOp_closeOp (s : State) :
    closeOp (closeOp s) = (closeOp s).log .close := rfl

theorem callback_eq (e : Event) (next : DStep) (s : State) : callback e next s = { s with
    dpc := next, cbw := if s.cbEn then true else s.cbw, cbValid := if s.cbEn then true else s.cbValid,
    cbCode := if s.cbEn then e.code else s.cbCode, trace := s.trace ++ [.cb e] } := by
  unfold callback
  cases s.cbEn <;> simp [State.log]

/-! ### One unit between memory and data register -/

/-- Everything a unit received may change: memory at `a` and what `DR_READ` changes. -/
theorem memWrite_drRead_eq (a : Word) (s : State) : memWrite a s.dr (drRead s) = { s with
    dr := if s.shRx then s.shift else s.dr, shRx := false, btf := if s.shRx then false else s.btf,
    rxne := if s.shRx then s.rxne else false, mem := Memory.set s.mem a.toNat s.dr,
    trace := s.trace ++ [.drr s.dr, .memw a s.dr] } := by
  rw [drRead_eq]
  simp [memWrite, State.log, State.memPut]

end Sys2Proof.Machine
end

