-- ==== Sys2Proof/Laws/PerInstr.lean ====
section
/-! SUPPORT. Statements made per operation: the command word of an operation is in that operation's own row of
the opcode map. -/

namespace Sys2Proof.Laws.EncodeMatchesRow

/-- 30_encoding.md R109: the operation's row is a row of the map and its word satisfies the row's condition. -/
def Statement (i : Instr) : Prop := i.row ∈ opcodeMap ∧ i.row.matchesWord (encode i) = true

theorem pClkEn : Statement .pClkEn := by unfold Statement; decide
theorem pClkDis : Statement .pClkDis := by unfold Statement; decide
theorem pPeEn : Statement .pPeEn := by unfold Statement; decide
theorem pPeDis : Statement .pPeDis := by unfold Statement; decide
theorem pAckEn : Statement .pAckEn := by unfold Statement; decide
theorem pAckDis : Statement .pAckDis := by unfold Statement; decide
theorem pStartReq : Statement .pStartReq := by unfold Statement; decide
theorem pStopReq : Statement .pStopReq := by unfold Statement; decide
theorem pAddrW (a : Addr7) : Statement (.pAddrW a) := by
  revert a; unfold Statement; decide
theorem pAddrR (a : Addr7) : Statement (.pAddrR a) := by
  revert a; unfold Statement; decide
theorem pReadUnit : Statement .pReadUnit := by unfold Statement; decide
theorem pWriteUnit (d : Byte) : Statement (.pWriteUnit d) := by
  revert d; unfold Statement; decide
theorem pClearAddr : Statement .pClearAddr := by unfold Statement; decide
theorem pClearStopf : Statement .pClearStopf := by unfold Statement; decide
theorem init (own : Addr7) (fs duty ackp : Bool) : Statement (.init own fs duty ackp) := by
  revert own fs duty ackp; unfold Statement; decide
theorem setCb (en : Bool) : Statement (.setCb en) := by
  revert en; unfold Statement; decide
theorem msend (a : Addr7) (rs : Bool) : Statement (.msend a rs) := by
  revert a rs; unfold Statement; decide
theorem mrecv (a : Addr7) (rs : Bool) : Statement (.mrecv a rs) := by
  revert a rs; unfold Statement; decide
theorem msendA (a : Addr7) (rs : Bool) : Statement (.msendA a rs) := by
  revert a rs; unfold Statement; decide
theorem mrecvA (a : Addr7) (rs : Bool) : Statement (.mrecvA a rs) := by
  revert a rs; unfold Statement; decide
theorem srecv : Statement .srecv := by unfold Statement; decide
theorem ssend (d : Byte) : Statement (.ssend d) := by
  revert d; unfold Statement; decide
theorem evdisp : Statement .evdisp := by unfold Statement; decide
theorem erdisp : Statement .erdisp := by unfold Statement; decide

end Sys2Proof.Laws.EncodeMatchesRow
end

