-- ==== Sys2Proof/Tests/Slice0.lean ====
section
/-! SUPPORT. Tests. Expected results are those of 95_test_vectors.md (the vector's number is in the name) and of
the worked examples of the rules. A theorem `wit_X` shows that something meets the hypotheses of `Obligations.X`. -/

namespace Sys2Proof.Tests

open Sys2Proof.Machine

/-! ### States -/

/-- After reset with the clock on. -/
def sClk : State := { State.reset with clken := true }
/-- S0 of 95_test_vectors.md: peripheral enabled, trace emptied. -/
def s0 : State := { sClk with pe := true }
/-- S1 of 95_test_vectors.md. -/
def s1 : State := { s0 with own := 0x42, ack := true }
/-- Callback context: the event dispatcher waits before check E3. -/
def sCb : State := { s0 with seqMode := .ev, cbw := true, cbValid := true, dpc := .e3 }
/-- The event dispatcher at a position. -/
def sEv (d : DStep) : State := { s0 with seqMode := .ev, dpc := d }
/-- The error dispatcher at a position. -/
def sEr (d : DStep) : State := { s0 with seqMode := .er, dpc := d }
/-- A blocking operation at a label. -/
def sBlk (op : BlockOp) (b : BStep) : State := { s0 with seqMode := .blk, bop := op, bpc := b, wLen := 1 }
/-- Master phase with the bus busy. -/
def sMaster (p : Phase) : State := { s0 with msl := true, busy := true, phase := p }
/-- Master transmitter with a unit in the shift register. -/
def sTxUnit : State := { sMaster .mTx with tra := true, shTx := true, shift := 0x12 }

/-- The state after one move. -/
def after (m : Move) (s : State) : State :=
  match step (s.offer m) with
  | .next t => t
  | .fault _ | .refused _ => s

/-- The state after a command word. -/
def afterCmd (w : Word) (s : State) : State := after (cmdMove w) s

/-- A register-port read and write of a word. -/
def rd (off : Offset) : Move := .host (.portRead .word off)
def wr (off : Offset) (w : Word) : Move := .host (.portWrite .word off w)

/-! ### WellFormed: each check refuses an ill-formed line -/

theorem test_wf_good : ProgLine.wf ⟨.msend 0x68 false, some 0x100, some 2⟩ = true := by decide
theorem test_wf_no_buffer : ProgLine.bufOk ⟨.msend 0x68 false, none, some 2⟩ = false ∧
    ProgLine.wf ⟨.msend 0x68 false, none, some 2⟩ = false := by decide
theorem test_wf_no_length : ProgLine.lenOk ⟨.mrecvA 0x68 false, some 0x100, none⟩ = false ∧
    ProgLine.wf ⟨.mrecvA 0x68 false, some 0x100, none⟩ = false := by decide
theorem test_wf_length_zero : ProgLine.lenNonzero ⟨.mrecv 0x68 true, some 0x100, some 0⟩ = false ∧
    ProgLine.wf ⟨.mrecv 0x68 true, some 0x100, some 0⟩ = false := by decide
theorem test_wf_stray_operand : ProgLine.wf ⟨.pAckEn, some 0x100, none⟩ = false ∧
    ProgLine.wf ⟨.pAckEn, none, some 1⟩ = false := by decide

/-! ### Encodings: every constructor's word, bits 31 to 0 written from 30_encoding.md -/

theorem test_decode_F0 :
    decode 0b00000000000000000000000000000001 = .ok .pClkEn ∧
    decode 0b00000000000000000000000000000010 = .ok .pClkDis ∧
    decode 0b00000000000000000000000000000011 = .ok .pPeEn ∧
    decode 0b00000000000000000000000000000100 = .ok .pPeDis ∧
    decode 0b00000000000000000000000000000101 = .ok .pAckEn ∧
    decode 0b00000000000000000000000000000110 = .ok .pAckDis ∧
    decode 0b00000000000000000000000000000111 = .ok .pStartReq ∧
    decode 0b00000000000000000000000000001000 = .ok .pStopReq ∧
    decode 0b00000000000000000000000000001011 = .ok .pReadUnit ∧
    decode 0b00000000000000000000000000001101 = .ok .pClearAddr ∧
    decode 0b00000000000000000000000000001110 = .ok .pClearStopf ∧
    decode 0b00000000000000000000000000010110 = .ok .srecv ∧
    decode 0b00000000000000000000000000011000 = .ok .evdisp ∧
    decode 0b00000000000000000000000000011001 = .ok .erdisp := by
  refine ⟨?_, ?_, ?_, ?_, ?_, ?_, ?_, ?_, ?_, ?_, ?_, ?_, ?_, ?_⟩ <;> rfl

/-- V30.8. -/
theorem test_decode_FA :
    decode 0b0000000000000000_0_1101000_00001001 = .ok (.pAddrW 0x68) ∧
    decode 0b0000000000000000_0_1101000_00001010 = .ok (.pAddrR 0x68) := ⟨rfl, rfl⟩

/-- V30.8. -/
theorem test_decode_FD :
    decode 0b0000000000000000_11111111_00001100 = .ok (.pWriteUnit 0xFF) ∧
    decode 0b0000000000000000_10101010_00010111 = .ok (.ssend 0xAA) := ⟨rfl, rfl⟩

/-- V30.3, V30.4, V30.5. -/
theorem test_decode_FT :
    decode 0b000000000000000_0_0_1101000_00010010 = .ok (.msend 0x68 false) ∧
    decode 0b000000000000000_1_0_1101000_00010011 = .ok (.mrecv 0x68 true) ∧
    decode 0b000000000000000_0_0_1101000_00010100 = .ok (.msendA 0x68 false) ∧
    decode 0b000000000000000_1_0_1111111_00010101 = .ok (.mrecvA 0x7F true) := ⟨rfl, rfl, rfl, rfl⟩

/-- V30.6, V45.2, V30.7. -/
theorem test_decode_FI_FC :
    decode 0b0000000000000_1_0_0_0_1000010_00010000 = .ok (.init 0x42 false false true) ∧
    decode 0b0000000000000_0_1_1_0_1111111_00010000 = .ok (.init 0x7F true true false) ∧
    decode 0b00000000000000000000000_1_00010001 = .ok (.setCb true) ∧
    decode 0b00000000000000000000000_0_00010001 = .ok (.setCb false) := ⟨rfl, rfl, rfl, rfl⟩

/-- V30.9 to V30.12. -/
theorem test_decode_V30_reserved :
    decode 0x00008009 = .error .reservedBits ∧ decode 0x00000000 = .error .reservedOpcode ∧
    decode 0x0000000F = .error .reservedOpcode ∧ decode 0x0000001A = .error .reservedOpcode ∧
    decode 0x000000FF = .error .reservedOpcode ∧ decode 0x80000001 = .error .reservedBits ∧
    decode 0x00000107 = .error .reservedBits ∧ decode 0x00020012 = .error .reservedBits := by
  refine ⟨?_, ?_, ?_, ?_, ?_, ?_, ?_, ?_⟩ <;> rfl

/-- V30.3. -/
theorem test_portWrites_V30_3 : ProgLine.portWrites ⟨.msend 0x68 false, some 0x100, some 2⟩ =
    [(0x30, 0x00000100), (0x34, 0x00000002), (0x38, 0x00006812)] := by decide

/-- V30.1, V30.2. -/
theorem test_addrByte_V30 : addrByte 0x68 false = 0xD0 ∧ addrByte 0x68 true = 0xD1 ∧
    addrByte 0x00 false = 0x00 ∧ addrByte 0x7F true = 0xFF ∧ addrByte 0x42 true = 0x85 := by decide

/-- V30.14. -/
theorem test_event_codes_V30_14 :
    [Event.masterTxComplete, .masterRxComplete, .slaveStopDetected, .errBus, .errArbitrationLost, .errAckFailure,
      .errOverrun, .errTimeout, .slaveDataRequested, .slaveReadRequest].map Event.code =
    [0, 1, 2, 3, 4, 5, 6, 7, 8, 9] := by decide

/-! ### Register port and data register -/

theorem test_V20_1 : let t := after (rd 0x14) { s0 with stopf := true }
    t.rdata = 0x10 ∧ t.stopf = false := by decide
/-- 20_memory.md R79 does not ask for the clock, and R77 (e) refuses no read. -/
theorem test_R79_gated : let s : State := { State.reset with stopf := true, addr := true }
    after (rd 0x14) s = { s with rdata := 0x12, stopf := false, addrRd := true } := by decide
theorem test_V20_2 :
    let t := after (rd 0x18) { sMaster .mTx with addr := true, addrRd := true, tra := true }
    t.rdata = 0x7 ∧ t.addr = false ∧ t.addrRd = false ∧ t.txe = true := by decide
theorem test_V20_3 : (after (rd 0x18) { s0 with addr := true }).addr = true := by decide
theorem test_V20_4 : (after (wr 0x14 0xFFFFFBFF) { s0 with arlo := true, af := true }).sr1Word = 0x0200 := by
  decide
theorem test_V20_6 : (after (wr 0x08 0x84) s0).oarWord = 0 := by decide
theorem test_V20_8 : (after (wr 0x00 0x001) State.reset).ctrlWord = 0 := by decide
theorem test_V20_8b : let t := after (wr 0x00 0x301) s1
    t.ctrlWord = 0x301 ∧ t.trace = [.prim .ackDis, .prim .startReq, .prim .stopReq] := by decide
/-- 20_memory.md R77 (d): the request primitives follow `P_PE_DIS`, and a request that is not written is dropped by it. -/
theorem test_R77_order : let s : State := { s1 with start := true }
    after (wr 0x00 0x400) s = peDisOp s ∧ (after (wr 0x00 0x700) s).ctrlWord = 0x700 ∧
    (after (wr 0x00 0x700) s).trace = [.prim .peDis, .prim .startReq, .prim .stopReq] := by decide
theorem test_V20_9 : (after (rd 0x1C) s0).rdata = 0 ∧ (after (rd 0x44) s0).rdata = 0 ∧
    (after (rd 0x38) { s0 with cmd := 3 }).rdata = 0 := by decide
theorem test_V20_11 :
    let t := drRead { s0 with rxne := true, dr := 0xB1, shRx := true, shift := 0xB2, btf := true }
    t.trace = [.drr 0xB1] ∧ t.dr = 0xB2 ∧ t.shRx = false ∧ t.btf = false ∧ t.rxne = true := by decide
theorem test_V20_15 : let t := drWrite 0x34 { sTxUnit with txe := true }
    t.dr = 0x34 ∧ t.shift = 0x12 ∧ t.txe = false := by decide
theorem test_V20_17 : let t := drWrite 0x99 { sMaster .mTx with tra := true, addr := true }
    t.dr = 0x99 ∧ t.shift = 0 ∧ t.shTx = false ∧ t.txe = false := by decide
theorem test_V20_18 : let t := after .seq { sEv .e5master with
      role := .busyTx, cursor := 0xFFFFFFFF, remain := 2, msl := true, txe := true }
    t.cursor = 0 ∧ t.remain = 1 := by decide

/-! ### Operations -/

theorem test_V40_1 : let t := afterCmd 0x03 State.reset
    t.clken = false ∧ t.pe = false ∧ t.resultWord = 0x100 := by decide
theorem test_V40_2 : (afterCmd 0x01 State.reset).clken = true := by decide
theorem test_V40_3 : (afterCmd 0x02 s0).clken = true ∧ (afterCmd 0x02 s0).resultWord = 0x100 := by decide
theorem test_V40_4 : (afterCmd 0x04 s0).ctrlWord = 0x000 := by decide
theorem test_V40_5 : (afterCmd 0x04 { s0 with role := .busyTx }).resultWord = 0x100 := by decide
theorem test_V40_6 : (afterCmd 0x05 s0).ctrlWord = 0x401 ∧ (afterCmd 0x06 s1).ctrlWord = 0x001 := by decide
theorem test_V40_7 : let t := after (.wire .start) { s0 with start := true }
    t.ctrlWord = 0x001 ∧ t.sr1Word = 0x0001 ∧ t.sr2Word = 0x3 ∧ t.phase = .mSb ∧ t.trace = [.wire .start] := by
  decide
theorem test_V40_8 : (afterCmd 0x08 s0).ctrlWord = 0x201 ∧
    (after (.wire .stop) { s0 with stop := true }) = s0 := by decide
theorem test_V40_9 :
    let t := afterCmd 0x0D { sMaster .mRx with role := .busyRx, remain := 1, addr := true, ack := true }
    t.ack = false ∧ t.addr = false ∧ t.trace = [.prim .ackDis, .prim .clearAddr] := by decide
theorem test_V40_11 : let t := afterCmd 0x0D { s1 with busy := true, phase := .sTx, addr := true, tra := true }
    t.addr = false ∧ t.txe = true ∧ t.ack = true := by decide
theorem test_V40_13 : let t := afterCmd 0x0E { s0 with stopf := true, addr := true, addrRd := true }
    t.stopf = false ∧ t.addr = true ∧ t.addrRd = true := by decide
theorem test_V40_14 : let t := afterCmd 0x0000680A { sMaster .mSb with sb := true }
    t.dr = 0xD1 ∧ t.shift = 0xD1 ∧ t.sb = false ∧ t.phase = .mAddr ∧
      t.trace = [.prim (.addrR 0x68), .drw 0xD1] := by decide
theorem test_V40_15 : let t := afterCmd 0x0B { s0 with rxne := true, dr := 0x07 }
    t.resultWord = 0x07 ∧ t.rxne = false := by decide
theorem test_V40_16 : let t := afterCmd 0x0000AA0C { s0 with busy := true, phase := .sTx, tra := true, txe := true }
    t.dr = 0xAA ∧ t.shift = 0xAA ∧ t.shTx = true ∧ t.txe = true := by decide
theorem test_V30_10 : let t := afterCmd 0x80000001 s0
    t.resultWord = 0x100 ∧ t.trace = [.op (.illegal 0x80000001)] := by decide
theorem test_V30_13 : let t := afterCmd 0x00006814 s0
    t.resultWord = 0x100 ∧ t.role = .ready ∧ t.start = false := by decide
theorem test_V42_accept : let t := afterCmd 0x00006812 { s0 with opBuf := 0x100, opLen := 2 }
    t.seqMode = .blk ∧ t.wCur = 0x100 ∧ t.wLen = 2 ∧ t.trace = [.op (.transfer .msend 0x100 2 0x68 false)] := by
  decide
theorem test_V42_8 : let t := afterCmd 0x00006812 { s0 with role := .busyRx, remain := 1, opLen := 2 }
    t.resultWord = 1 ∧ t.seqMode = .idle := by decide
theorem test_V42_11 : (afterCmd 0x00006812 { sCb with opLen := 2 }).resultWord = 0x100 := by decide
theorem test_V43_1 : let t := afterCmd 0x00006814 { s0 with opBuf := 0x100, opLen := 2 }
    t.ctrlWord = 0x101 ∧ t.ienWord = 0x700 ∧ t.role = .busyTx ∧ t.cursor = 0x100 ∧ t.remain = 2 ∧
      t.taddr = 0x68 ∧ t.rs = false ∧ t.resultWord = 0 := by decide
theorem test_V43_3 :
    let s : State := { s0 with role := .busyTx, cursor := 0x100, remain := 2, opBuf := 0x500, opLen := 9 }
    let t := afterCmd 0x00011115 s
    t.resultWord = 2 ∧ t.ack = false ∧ t.cursor = 0x100 ∧ t.remain = 2 := by decide
theorem test_V43_4 : let t := afterCmd 0x00006815 { s0 with opBuf := 0x300, opLen := 3 }
    t.ctrlWord = 0x501 ∧ t.role = .busyRx ∧ t.remain = 3 := by decide
theorem test_V44_12 : (afterCmd 0x18 sCb).resultWord = 0x100 := by decide
theorem test_V45_1 : let t := afterCmd 0x00044210 State.reset
    t.clken = true ∧ t.oarWord = 0x84 ∧ t.cfgWord = 0 ∧ t.ctrlWord = 0x400 := by decide
theorem test_V45_2 : let t := afterCmd 0x00037F10 State.reset
    t.oarWord = 0xFE ∧ t.cfgWord = 0xC000 ∧ t.ctrlWord = 0x000 := by decide
theorem test_V45_3 : (afterCmd 0x00044210 s0).resultWord = 0x100 := by decide
theorem test_V45_4 : (afterCmd 0x00000111 s0).cbEn = true := by decide
theorem test_V45_6 : let t := afterCmd 0x16 { s0 with rxne := true, dr := 0x5A }
    t.resultWord = 0x5A ∧ t.rxne = false ∧ t.trace = [.op .srecv, .drr 0x5A] := by decide
theorem test_V45_7 : let t := afterCmd 0x0000AA17 s0
    t.dr = 0xAA ∧ t.shift = 0 ∧ t.trace = [.op (.ssend 0xAA), .drw 0xAA] := by decide
/-- The first operation after reset: `CLKEN = 0`, so `SSEND` is illegal (45_slave_and_system.md R275). -/
theorem test_withFetchWord : (match step (State.reset.withFetchWord 32 0x0000AA17) with
    | .next t => decide (t.resultWord = 0x100 ∧ t.cmd = 0x0000AA17)
    | .fault _ | .refused _ => false) = true := by decide

/-! ### Wire events -/

theorem test_V41_1 :
    let t := after (.wire (.addrResult .ack)) { sMaster .mAddr with shift := 0xD0, shTx := true }
    t.sr1Word = 0x0002 ∧ t.sr2Word = 0x7 ∧ t.phase = .mTx ∧ t.shTx = false := by decide
theorem test_V41_3 :
    let t := after (.wire (.addrResult .nack)) { sMaster .mAddr with shift := 0xD0, shTx := true }
    t.sr1Word = 0x0400 ∧ t.sr2Word = 0x3 ∧ t.phase = .mHalt := by decide
theorem test_V41_4 : let s : State := { sTxUnit with addr := true }
    after (.wire (.txByte .ack)) s = s ∧ after (.wire (.txByte .nack)) s = s := by decide
theorem test_V41_5 : let t := after (.wire (.txByte .ack)) { sTxUnit with dr := 0x34 }
    t.shift = 0x34 ∧ t.txe = true ∧ t.shTx = true ∧ t.btf = false := by decide
theorem test_V41_8 : let t := after (.wire (.txByte .ack)) { sTxUnit with stop := true }
    t.phase = .idle ∧ t.sr1Word = 0 ∧ t.sr2Word = 0 ∧ t.stop = false ∧
      t.trace = [.wire (.txByte 0x12 .ack), .wire .stop] := by decide
theorem test_V41_10 : let t := after (.wire (.rxByte 0xA2)) { sMaster .mRx with ack := true, rxne := true, dr := 0xA1 }
    t.shift = 0xA2 ∧ t.shRx = true ∧ t.btf = true ∧ t.dr = 0xA1 := by decide
theorem test_V41_11 : let t := after (.wire (.rxByte 0x07)) { sMaster .mRx with stop := true }
    t.dr = 0x07 ∧ t.rxne = true ∧ t.phase = .idle ∧ t.sr2Word = 0 ∧
      t.trace = [.wire (.rxByte 0x07 .nack), .wire .stop] := by decide
theorem test_V41_10_12 : let s : State := { sMaster .mRx with rxne := true, shRx := true, btf := true }
    let n : State := { sMaster .mRx with rxne := true, dr := 0x07, nacked := true }
    after (.wire (.rxByte 0xA3)) s = s ∧ after (.wire (.rxByte 0xA3)) n = n ∧ n.quiescent := by decide
theorem test_V41_14 : let t := after (.wire (.eAddress 0x42 true)) s1
    t.sr1Word = 0x0002 ∧ t.sr2Word = 0x6 ∧ t.phase = .sTx := by decide
theorem test_V41_16 : let t := after (.wire (.eAddress 0x42 false)) { s1 with ack := false }
    t.phase = .bOther ∧ t.addr = false := by decide
theorem test_V41_17 : let t := after (.wire .eStop) { s0 with busy := true, phase := .sEnd }
    t.stopf = true ∧ t.phase = .idle ∧ t.sr2Word = 0 := by decide
theorem test_V41_18 : let s : State := { s1 with busy := true, phase := .bOther, start := true }
    after (.wire .start) s = s ∧ (after (.wire .eStop) s).phase = .idle := by decide
theorem test_V41_20 :
    let t := after (.wire .arlo) { sMaster .mAddr with shTx := true, role := .busyTx, remain := 2 }
    t.sr1Word = 0x0200 ∧ t.sr2Word = 0x2 ∧ t.phase = .bOther ∧ t.shTx = false ∧ t.remain = 2 := by decide
theorem test_V41_22 : after (.wire .start) { sClk with start := true } = { sClk with start := true } := by decide

/-! ### Sequencer -/

/-- T8.3: the lookahead of two (42_blocking_engine.md R204 V12). -/
theorem test_V42_4 : let t := after .seq { sBlk .mrecv .v12 with wLen := 2, ack := true }
    t.ack = false ∧ t.bpc = .v12b := by decide
/-- 42_blocking_engine.md R205: after a lost arbitration the slave role sets `ADDR` and T3 still spins, and after a NACK
it spins on an `ADDR` left set; R202: after an acknowledged address phase a stop leaves `ADDR` set and T3 passes, and an
`AF` left from before changes nothing. -/
theorem test_R205 :
    let m : State := { sBlk .msend .t3 with msl := true, busy := true, phase := .mAddr, shTx := true, shift := 0xD0 }
    let lost := after (.wire (.eAddress 0x42 true)) (after (.wire .arlo) { m with own := 0x42, ack := true })
    let nack := after (.wire (.addrResult .nack)) { m with addr := true }
    let stopped := after (.wire .stop) (after (.wire (.addrResult .ack)) { m with stop := true, af := true })
    lost.addr = true ∧ after .seq lost = lost ∧ after .seq nack = nack ∧
    stopped.msl = false ∧ stopped.addr = true ∧ (after .seq stopped).bpc = .t4 := by decide
/-- 44_dispatcher.md R250: a slave transmitter is left alone by E2, a master transmitter closes. -/
theorem test_R250 :
    let s : State := { sEv .e2 with btf := true, txe := true, tra := true, role := .busyTx, phase := .sTx }
    (after .seq s).dpc = .e3 ∧ (after .seq { s with phase := .mTx, msl := true }).dpc = .e2s1 := by decide
theorem test_T6 : let t := after .seq { sBlk .msend .t6 with wCur := 0x100, wLen := 2, mem := [(0x100, 0x12)] }
    t.dr = 0x12 ∧ t.wCur = 0x101 ∧ t.wLen = 1 ∧ t.bpc = .t5 := by decide
theorem test_V9 : let t := after .seq { sBlk .mrecv .v9 with wCur := 0x200, rxne := true, dr := 0x07 }
    t.memAt 0x200 = 0x07 ∧ t.seqMode = .idle ∧ t.resultWord = 0 ∧ t.rxne = false := by decide
theorem test_V44_2 : (after .seq { sEv .e0a with sb := true }).sb = true := by decide
theorem test_V44_3 :
    let t := after .seq { sEv .e0a with sb := true, phase := .mSb, role := .busyRx, taddr := 0x68, remain := 1 }
    t.sb = false ∧ t.phase = .mAddr ∧ t.trace = [.prim (.addrR 0x68), .drw 0xD1] := by decide
theorem test_V44_8 : (after .seq { sEv .e4 with rxne := true, msl := true }).dpc = .e5 := by decide
theorem test_R253_example : let t := after .seq { sEv .e4s2 with
      role := .busyRx, remain := 2, cursor := 0x301, dr := 0xA2, rxne := true, msl := true }
    t.memAt 0x301 = 0xA2 ∧ t.remain = 1 ∧ t.cursor = 0x302 ∧ t.dpc = .e5 := by decide
theorem test_V43_5 : let t := closeOp { s0 with
      role := .busyTx, cursor := 0x102, taddr := 0x68, rs := true, itbufen := true, itevten := true, iterren := true }
    t.role = .ready ∧ t.cursor = 0 ∧ t.taddr = 0 ∧ t.rs = false ∧ t.ienWord = 0x100 := by decide
theorem test_V44_10 : let t := after .seq { sEr (.err .berr .clear) with berr := true, af := true }
    t.sr1Word = 0x0400 ∧ t.trace = [.clr .berr] := by decide
theorem test_V45_5 : let t := after .seq (sEr (.err .af .call))
    t.cbValid = false ∧ t.cbw = false ∧ t.trace = [.cb .errAckFailure] := by decide
theorem test_callback_code : let t := after .seq { sEr (.err .af .call) with cbEn := true }
    t.cbValid = true ∧ t.cbCode = 5 ∧ t.cbw = true := by decide

/-! ### Lines and reset -/

theorem test_V60 :
    ({ s0 with itevten := true, txe := true } : State).irqEv = false ∧
    ({ s0 with itevten := true, itbufen := true, txe := true } : State).irqEv = true ∧
    ({ s0 with itbufen := true, rxne := true } : State).irqEv = false ∧
    ({ s0 with iterren := true, af := true } : State).irqEr = true ∧
    ({ s0 with itevten := true, itbufen := true, af := true } : State).irqEr = false := by decide
theorem test_V70_1 : let t := after .reset { sMaster .mTx with dr := 5, mem := [(3, 7)], trace := [.close] }
    t.phase = .idle ∧ t.dr = 0 ∧ t.trace = [] ∧ t.mem = [(3, 7)] := by decide

/-! ### Witnesses -/

theorem wit_EncodeOfDecodeIsTheWord : decode 0x00006809 = .ok (.pAddrW 0x68) := rfl
theorem wit_DecodeFollowsTheOpcodeMap : decode 0x00006809 = .ok (.pAddrW 0x68) ∧
    (⟨0xFFFF80FF, 0x09⟩ : OpcodeRow) ∈ opcodeMap ∧
    OpcodeRow.matchesWord ⟨0xFFFF80FF, 0x09⟩ 0x00006809 = true := ⟨rfl, by decide, by decide⟩
theorem wit_ReservedWordsAreIllegal_opcode : fieldOpc 0x00000000 = 0x00 ∧ fieldOpc 0x0000000F = 0x0F ∧
    0x1A ≤ (fieldOpc 0x0000001A).toNat ∧ 0x1A ≤ (fieldOpc 0x000000FF).toNat := by decide
theorem wit_ReservedWordsAreIllegal_bits : (⟨0xFFFF80FF, 0x09⟩ : OpcodeRow) ∈ opcodeMap ∧
    fieldOpc 0x00008009 = (0x09 : Word).setWidth 8 ∧
    OpcodeRow.matchesWord ⟨0xFFFF80FF, 0x09⟩ 0x00008009 = false := by decide
theorem wit_ReservedWordsAreIllegal_step : s0.hostReady ∧ decode 0x00008009 = .error .reservedBits :=
  ⟨by decide, rfl⟩
theorem wit_StepRunsTheDecodedCommand :
    (s0.offer .seq).schedule = .seq :: [] ∧ s0.schedule = [] ∧ s0.hostReady ∧ sCb.hostReady ∧
    decode 0x00006809 = .ok (.pAddrW 0x68) ∧ 0x00006809 < 2 ^ 32 ∧
    decodeTableWord 32 0x00006809 = some (.pAddrW 0x68) :=
  ⟨rfl, rfl, by decide, by decide, rfl, by decide, rfl⟩
theorem wit_BlockingOperationHoldsHost :
    (sBlk .msend .t1).seqMode = .blk ∧ (sBlk .msend .t1).cbw = false ∧ (sBlk .msend .t1).spinning ∧
    (let s : State := { sBlk .mrecv .v4 with wFailed := true }
     s.hung ∧ (s.offer .seq).hung ∧ step (s.offer .seq) = .next s ∧ nextMove (s.offer .seq) ≠ .reset) := by
  exact ⟨rfl, rfl, ⟨rfl, rfl⟩, ⟨by decide, by decide⟩, ⟨by decide, by decide⟩, rfl, by decide⟩
/-- The clauses about the events that end the transfer. -/
theorem wit_BlockingOperationHoldsHost_ends :
    (let s : State := { sBlk .msend .t3 with msl := true, phase := .mAddr, shTx := true }
     s.clken = true ∧ s.pe = true ∧ s.atTransferSpin ∧ s.phase = .mAddr ∧ s.msl = true ∧
       (∃ t, Runs (.wire (.addrResult .nack)) s t) ∧ ∃ t, Runs (.wire .arlo) s t) ∧
    (let s : State := { sBlk .msend .t5 with msl := true, phase := .mTx, shTx := true, tra := true }
     s.atTransferSpin ∧ s.phase = .mTx ∧ s.msl = true ∧ s.addr = false ∧ s.shTx = true ∧
       ∃ t, Runs (.wire (.txByte .nack)) s t) :=
  ⟨⟨rfl, rfl, by decide, rfl, rfl, ⟨_, rfl⟩, ⟨_, rfl⟩⟩, by decide, rfl, rfl, rfl, rfl, ⟨_, rfl⟩⟩
theorem wit_ClockGateOperationsTakeEffect : (sClk.seqMode = .idle ∧ sClk.clken = true ∧ sClk.pe = false) ∧
    (sCb.cbw = true ∧ sCb.pe = true) ∧ (State.reset.seqMode = .idle ∧ State.reset.clken = false) := by decide
theorem wit_PeripheralEnableOperationsTakeEffect :
    (s0.seqMode = .idle ∧ s0.clken = true ∧ s0.phase = .idle ∧ s0.role = .ready) ∧
    (sCb.cbw = true ∧ sCb.clken = true) ∧
    (sTxUnit.seqMode = .idle ∧ sTxUnit.clken = true ∧ sTxUnit.phase ≠ .idle) ∧
    ({ s0 with role := .busyTx } : State).role ≠ .ready := by decide
theorem wit_operation_contexts : (s0.seqMode = .idle ∧ s0.clken = true) ∧ (sCb.cbw = true ∧ sCb.clken = true) := by
  decide
theorem wit_AckPolicyAndBusRequestsTakeEffect : (s0.seqMode = .idle ∨ s0.cbw = true) ∧ s0.clken = true := by decide
theorem wit_DataRegisterWriteOperationsTakeEffect : (s0.seqMode = .idle ∨ s0.cbw = true) ∧ s0.clken = true := by
  decide
theorem wit_DataRegisterWriteHasThreeBranches :
    ({ sMaster .mSb with sb := true } : State).sb = true ∧
    (sTxUnit.sb = false ∧ sTxUnit.tra = true ∧ sTxUnit.phase = .mTx ∧ sTxUnit.addr = false ∧ sTxUnit.shTx = true) ∧
    ({ sTxUnit with shTx := false } : State).shTx = false ∧
    (s0.sb = false ∧ s0.tra = false) ∧ ({ sTxUnit with addr := true } : State).addr = true ∧
    ((sMaster .mHalt).phase ≠ .mTx ∧ (sMaster .mHalt).phase ≠ .sTx) := by decide
theorem wit_DataRegisterReadOperationsTakeEffect :
    State.reset.seqMode = .idle ∧ (sCb.seqMode = .idle ∨ sCb.cbw = true) ∧ sCb.clken = true := by decide
theorem wit_ClearAddressFlagAppliesTheAckRule :
    let s : State := { s0 with role := .busyRx, remain := 1 }
    (s.seqMode = .idle ∨ s.cbw = true) ∧ s.clken = true ∧ s.role = .busyRx ∧ s.remain = 1 ∧
    ({ s with remain := 3 } : State).remain ≠ 1 ∧ s0.role ≠ .busyRx := by decide
theorem wit_ClearStopFlagTouchesNoOtherFlag : (s0.seqMode = .idle ∨ s0.cbw = true) ∧ s0.clken = true ∧
    s0.sb = false ∧ s0.addr = false ∧ s0.btf = false ∧ s0.rxne = false ∧ s0.txe = false ∧
    State.reset.seqMode = .idle ∧ State.reset.clken = false := by decide
theorem wit_InitWritesTheConfiguration :
    (State.reset.seqMode = .idle ∧ State.reset.pe = false ∧ State.reset.role = .ready) ∧
    sCb.seqMode ≠ .idle ∧ s0.pe = true ∧ ({ sClk with role := .busyRx } : State).role ≠ .ready := by decide
theorem wit_SetCallbackAttachesTheHandler : (s0.seqMode = .idle ∨ s0.cbw = true) ∧ s0.clken = true ∧
    State.reset.seqMode = .idle ∧ State.reset.clken = false := by decide
theorem wit_BlockingTransferIsAcceptedOrRejected :
    let s : State := { s0 with opLen := 1 }
    s.seqMode = .idle ∧ s.clken = true ∧ s.opLen ≠ 0 ∧ s.role = .ready ∧
    ({ s with role := .busyTx } : State).role ≠ .ready := by decide
theorem wit_ArmingIsAcceptedOnlyWhileReady :
    let s : State := { sCb with opLen := 1 }
    (s.seqMode = .idle ∨ s.cbw = true) ∧ s.clken = true ∧ s.opLen ≠ 0 ∧ s.role = .ready ∧
    ({ s with role := .busyRx } : State).role ≠ .ready ∧ State.reset.clken = false ∧ s0.opLen = 0 := by decide
theorem wit_DispatcherEntryChangesOnlyThePosition : s0.seqMode = .idle ∧ s0.clken = true := by decide
theorem wit_IllegalOperationOnlySetsResult :
    (State.reset.seqMode = .idle ∧ ¬ legalIn .pPeEn State.reset) ∧ legalIn .pPeEn s0 ∧
    (sCb.cbw = true ∧ ¬ legalIn .evdisp sCb) ∧ legalIn .srecv sCb ∧
    ((sEv .e0).seqMode ≠ .idle ∧ (sEv .e0).cbw = false) := by
  simp [legalIn, State.reset, s0, sClk, sCb, sEv]
theorem wit_OperationsChangeOnlyTheirOwnState : exec .pPeEn sClk = .next (afterCmd 0x03 { sClk with cmd := 0 } |>
    fun t => { t with cmd := 0 }) ∧ armsSession .pPeEn = false ∧ isInit .pPeEn = false ∧ startsSeq .pPeEn = false ∧
    touchesData .pPeEn = false ∧ isSetCb .pPeEn = false := ⟨rfl, rfl, rfl, rfl, rfl, rfl⟩
theorem wit_StartConditionIsGenerated :
    let s : State := { s0 with start := true }
    let r : State := { sMaster .mHalt with start := true }
    (s.clken = true ∧ s.pe = true ∧ s.start = true ∧ ¬ (s.stop = true ∧ s.msl = true) ∧ s.phase = .idle) ∧
    (r.start = true ∧ ¬ (r.stop = true ∧ r.msl = true) ∧ r.msl = true ∧ r.quiescent) := by decide
theorem wit_StopConditionIsGenerated :
    let s : State := { sMaster .mSb with stop := true }
    (s.clken = true ∧ s.pe = true ∧ s.stop = true ∧ s.msl = true ∧ s.quiescent) ∧
    ({ s0 with stop := true } : State).msl = false := by decide
theorem wit_AddressPhaseIsAnswered : (sMaster .mAddr).clken = true ∧ (sMaster .mAddr).pe = true ∧
    (sMaster .mAddr).phase = .mAddr ∧ (sMaster .mAddr).shift.getLsbD 0 = false ∧
    ({ sMaster .mAddr with shift := 0xD1 } : State).shift.getLsbD 0 = true := by decide
theorem wit_SentUnitIsAnswered : sTxUnit.clken = true ∧ sTxUnit.pe = true ∧ sTxUnit.phase = .mTx ∧
    sTxUnit.addr = false ∧ sTxUnit.shTx = true ∧ (sTxUnit.msl = true ∧ sTxUnit.stop = false ∧ sTxUnit.start = false) ∧
    sTxUnit.txe = false ∧ ({ sTxUnit with txe := true } : State).txe = true ∧
    (({ sTxUnit with stop := true } : State).msl = true ∧ ({ sTxUnit with stop := true } : State).stop = true) ∧
    (({ sTxUnit with start := true } : State).msl = true ∧ ({ sTxUnit with start := true } : State).start = true) ∧
    ({ sTxUnit with phase := .sTx, msl := false } : State).msl = false := by decide
theorem wit_ReceivedUnitIsKeptAndAnswered :
    let s := sMaster .mRx
    s.clken = true ∧ s.pe = true ∧ s.phase = .mRx ∧ s.addr = false ∧ s.shRx = false ∧ s.nacked = false ∧
    (s.stop = false ∧ s.start = false) ∧ s.msl = true ∧ ({ s with stop := true } : State).stop = true ∧
    ({ s with start := true } : State).start = true ∧
    ({ s0 with busy := true, phase := .sRx } : State).msl = false := by decide
theorem wit_SlaveRoleIsEnteredAndLeft :
    (s1.clken = true ∧ s1.pe = true ∧ s1.msl = false ∧ s1.phase = .idle ∧ (0x42 : Addr7) = s1.own ∧ s1.ack = true) ∧
    (0x43 : Addr7) ≠ s1.own ∧ s0.ack = false ∧ ({ s1 with phase := .bOther } : State).phase = .bOther ∧
    ({ s1 with phase := .sEnd } : State).phase = .sEnd ∧
    (({ s1 with phase := .sRx } : State).addr = false ∧ ({ s1 with phase := .sRx } : State).shRx = false) := by decide
theorem wit_LostArbitrationEndsTheMasterRole : ((sMaster .mAddr).clken = true ∧ (sMaster .mAddr).pe = true ∧
    (sMaster .mAddr).msl = true ∧ (sMaster .mAddr).phase = .mAddr) ∧
    (sTxUnit.phase = .mTx ∧ sTxUnit.addr = false ∧ sTxUnit.shTx = true) := by decide
theorem wit_ErrorEventSetsOnlyItsFlag : (s0.clken = true ∧ s0.pe = true) ∧
    Runs (.wire (.err .ovr)) s0 { s0 with ovr := true, trace := [.wire (.err .ovr)] } ∧ s0.ovr = false :=
  ⟨by decide, rfl, rfl⟩
theorem wit_WireEngineLeavesTheRestAlone : sClk.pe = false ∧ s0.start = false ∧ s0.stop = false ∧
    s0.phase ≠ .mAddr ∧ s0.phase ≠ .mTx ∧ s0.phase ≠ .sTx ∧ s0.phase ≠ .mRx ∧ s0.phase ≠ .sRx ∧
    (sMaster .mSb).msl = true ∧ s0.msl = false ∧ s0.phase ≠ .bOther ∧ s0.phase ≠ .sEnd ∧
    Runs (.wire (.err .ovr)) s0 { s0 with ovr := true, trace := [.wire (.err .ovr)] } := by
  refine ⟨rfl, rfl, rfl, ?_, ?_, ?_, ?_, ?_, rfl, rfl, ?_, ?_, rfl⟩ <;> decide
/-- The clause about the held clock: a master transmitter whose address flag is set. -/
theorem wit_WireEngineLeavesTheRestAlone_held :
    FlagInv { sMaster .mTx with tra := true, addr := true } := by constructor <;> decide
theorem wit_SendStepsFollowTheirLabels :
    ((sBlk .msend .t0).clken = true ∧ (sBlk .msend .t0).cbw = false ∧ (sBlk .msend .t0).seqMode = .blk ∧
      (sBlk .msend .t0).role = .ready ∧ (sBlk .msend .t0).wRs = false) ∧
    ({ sBlk .msend .t1 with sb := true } : State).sb = true ∧
    (({ sBlk .msend .t3 with addr := true } : State).addr = true ∧
      ({ sBlk .msend .t3 with addr := true } : State).wFailed = false) ∧
    ({ sBlk .msend .t5 with wLen := 0 } : State).wLen = 0 ∧
    (let s : State := { sBlk .msend .t5 with txe := true }; s.wLen ≠ 0 ∧ s.txe = true ∧ s.wFailed = false) ∧
    (let s : State := { sBlk .msend .t7 with txe := true, btf := true }; s.txe = true ∧ s.btf = true ∧
      s.wFailed = false) ∧
    ({ sBlk .msend .t8 with wRs := true } : State).wRs = true := by decide
theorem wit_ReceiveStepsFollowTheirLabels :
    ((sBlk .mrecv .v0).clken = true ∧ (sBlk .mrecv .v0).cbw = false ∧ (sBlk .mrecv .v0).seqMode = .blk ∧
      (sBlk .mrecv .v6).role = .ready ∧ (sBlk .mrecv .v7).wRs = false ∧ Memory.wf (sBlk .mrecv .v9).mem = true) ∧
    ({ sBlk .mrecv .v2 with sb := true } : State).sb = true ∧
    (let s : State := { sBlk .mrecv .v4 with addr := true }; s.addr = true ∧ s.wFailed = false ∧ s.wLen = 1) ∧
    ({ sBlk .mrecv .v4 with wLen := 2 } : State).wLen ≠ 1 ∧
    (let s : State := { sBlk .mrecv .v8 with rxne := true }; s.rxne = true ∧ s.wFailed = false) ∧
    ({ sBlk .mrecv .v11 with wLen := 0 } : State).wLen = 0 ∧
    ({ sBlk .mrecv .v12 with wLen := 2 } : State).wLen = 2 ∧ (sBlk .mrecv .v12).wLen ≠ 2 ∧
    ({ sBlk .mrecv .v12b with wRs := true } : State).wRs = true := by decide
theorem wit_BlockingEngineNeverWritesTheSession : (sBlk .mrecv .v5).seqMode = .blk ∧
    Runs .seq (sBlk .mrecv .v5) { sBlk .mrecv .v6 with trace := [.prim .ackDis] } ∧
    (sBlk .mrecv .v5).bpc ≠ .v9 ∧ (sBlk .mrecv .v5).bpc ≠ .v13 := ⟨rfl, rfl, by decide, by decide⟩
theorem wit_EventChecksForStartAddressEndAndStop :
    ((sEv .e0).clken = true ∧ (sEv .e0).cbw = false ∧ (sEv .e0).seqMode = .ev ∧ (sEv .e0a).role = .ready ∧
      (sEv .e2s1).rs = false) ∧
    ({ sEv .e0a with role := .busyTx } : State).role = .busyTx ∧
    ({ sEv .e0a with role := .busyRx } : State).role = .busyRx ∧
    ({ sEv .e2s1 with rs := true } : State).rs = true := by decide
theorem wit_EventChecksForReceivedAndNextUnit :
    let s : State := { sEv .e4 with rxne := true, msl := true, role := .busyRx, remain := 2 }
    let u : State := { sEv .e5 with txe := true, msl := true, role := .busyTx, remain := 1 }
    (s.clken = true ∧ s.cbw = false ∧ s.seqMode = .ev ∧ s.rxne = true ∧ s.msl = true ∧ s.role = .busyRx ∧
      s.remain ≠ 0 ∧ s.remain = 2 ∧ s.rs = false ∧ Memory.wf s.mem = true) ∧
    (({ s with msl := false } : State).msl = false ∧ s.tra = false) ∧ ({ s with rxne := false } : State).rxne = false ∧
    ({ s with remain := 1 } : State).remain ≠ 2 ∧ ({ s with rs := true } : State).rs = true ∧
    (u.txe = true ∧ u.msl = true ∧ u.role = .busyTx ∧ u.remain ≠ 0) ∧
    (({ u with msl := false, tra := true } : State).tra = true) ∧ ({ u with txe := false } : State).txe = false := by
  decide
theorem wit_ClosingSequenceResetsTheSession : (sEv .e2s2).clken = true ∧ (sEv .e2s2).cbw = false ∧
    (sEv .e2s2).seqMode = .ev ∧ (sEv .e2s2).dpc = .e2s2 ∧ (sEv .e4s4).dpc = .e4s4 ∧
    exec .pPeEn s0 = .next { s0 with trace := [.prim .peEn] } := ⟨rfl, rfl, rfl, rfl, rfl, rfl⟩
theorem wit_ErrorChecksReportEachFlagOnce : (sEr (.err .af .check)).clken = true ∧
    (sEr (.err .af .check)).cbw = false ∧ (sEr (.err .af .check)).seqMode = .er ∧
    (sEr (.err .timeout .clear)).dpc = .err .timeout .clear ∧ (sEr (.err .berr .call)).cbEn = false ∧
    ({ sEr (.err .berr .call) with cbEn := true } : State).cbEn = true ∧ (sEr .exit).dpc = .exit := by decide
theorem wit_CallbackHandsOverAndReturns :
    ((sEv .e2s3).clken = true ∧ (sEv .e2s3).cbw = false ∧ (sEv .e2s3).seqMode = .ev ∧ (sEv .e2s3).dpc = .e2s3 ∧
      (sEv .e2s3).cbEn = false) ∧ ({ sEv .e2s3 with cbEn := true } : State).cbEn = true ∧
    (sCb.clken = true ∧ sCb.cbw = true) ∧ s0.cbw = false := by decide

theorem s0_seqInv : SeqInv s0 := by
  constructor <;> first | decide | simp [s0, sClk, State.reset]
theorem s0_flagInv : FlagInv s0 := by constructor <;> decide
theorem sEv_seqInv : SeqInv (sEv .e0) := by
  constructor <;> first | decide | simp [sEv, s0, sClk, State.reset, DStep.sessionOk]
theorem sEr_seqInv : SeqInv (sEr (.err .af .check)) := by
  constructor <;> first | decide | simp [sEr, s0, sClk, State.reset]
theorem sBlk_seqInv : SeqInv (sBlk .mrecv .v5) := by
  constructor <;> first | decide | simp [sBlk, s0, sClk, State.reset, BStep.lenOk]

theorem wit_DispatcherNeverExceedsItsRole : SeqInv (sEv .e0) ∧ (sEv .e0).clken = true ∧ (sEv .e0).cbw = false ∧
    (sEv .e0).seqMode = .ev ∧ Runs .seq (sEv .e0) (sEv .e1) ∧ SeqInv (sEr (.err .af .check)) ∧
    Runs .seq (sEr (.err .af .check)) (sEr (.err .ovr .check)) :=
  ⟨sEv_seqInv, rfl, rfl, rfl, rfl, sEr_seqInv, rfl⟩
theorem wit_NoDispatcherIsEnteredWhileOneRuns : (sCb.seqMode = .ev ∧ sCb.cbw = true) ∧
    ((sEr .exit).seqMode = .er ∧ (sEr .exit).cbw = false) := by decide
/-- The clause about the steps of a dispatcher, up to its exit. -/
theorem wit_NoDispatcherIsEnteredWhileOneRuns_exit : SeqInv (sEv .exit) ∧ (sEv .exit).seqMode = .ev ∧
    Runs .seq (sEv .exit) { s0 with dpc := .exit } ∧ ({ s0 with dpc := .exit } : State).clken = true :=
  ⟨by constructor <;> first | decide | simp [sEv, s0, sClk, State.reset, DStep.sessionOk], rfl, rfl, rfl⟩
theorem wit_StatusRegisterAccessesHaveSideEffects : (s0.seqMode = .idle ∨ s0.cbw = true) ∧ s0.clken = true ∧
    s0.addrRd = false ∧ ({ s0 with addr := true, addrRd := true } : State).addrRd = true := by decide
theorem wit_ControlWriteIsPerformedAsPrimitives : (s0.seqMode = .idle ∨ s0.cbw = true) ∧ s0.clken = true ∧
    s0.pe = true ∧ s0.phase = .idle ∧ s0.role = .ready := by decide
theorem wit_PlainRegisterAccesses : (s0.seqMode = .idle ∨ s0.cbw = true) ∧ s0.clken = true ∧
    (0x02 : Offset).toNat % 4 ≠ 0 ∧ 0x44 ≤ (0x44 : Offset).toNat ∧ 0x44 ≤ (0xFC : Offset).toNat ∧
    (0x3C : Offset) ∈ ([0x18, 0x20, 0x24, 0x28, 0x2C, 0x3C] : List Offset) := by decide
theorem wit_ConfigurationIsReadOnlyWhileEnabled : step (s0.offer .seq) = .next s0 ∧
    nextMove (s0.offer .seq) ≠ .reset ∧ (s0.offer .seq).pe = true ∧
    (sClk.seqMode = .idle ∧ sClk.clken = true ∧ sClk.pe = false) := ⟨rfl, by decide, rfl, rfl, rfl, rfl⟩
theorem wit_GatedClockFreezesTheBlock : State.reset.clken = false ∧ (0x3C : Offset) ≠ 0x38 ∧ (0x3C : Offset) ≠ 0x40 ∧
    Instr.pPeEn ≠ .pClkEn ∧ isInit .pPeEn = false ∧ State.reset.seqMode = .idle ∧
    (0x00 : Offset) ≠ 0x10 ∧ (0x3C : Offset) ≠ 0x14 ∧ (0x40 : Offset) ≠ 0x18 := by decide
theorem wit_EveryStepKeepsTheFlagInvariants : FlagInv (s0.offer .seq) ∧ step (s0.offer .seq) = .next s0 :=
  ⟨by constructor <;> decide, rfl⟩
/-- Clauses (g) and (h) of R56. -/
theorem wit_EveryStepKeepsTheFlagInvariants_gh :
    let s : State := { s0 with busy := true, phase := .sEnd }
    (s.stopf = false ∧ (after (.wire .eStop) s).stopf = true) ∧
    (({ s0 with start := true } : State).start = true ∧ (after (.wire .start) { s0 with start := true }).start = false) ∧
    (({ s0 with stop := true } : State).stop = true ∧ (afterCmd 0x04 { s0 with stop := true }).stop = false) := by
  decide
theorem wit_EveryStepKeepsTheSequencerInvariants : SeqInv (s0.offer .seq) ∧ step (s0.offer .seq) = .next s0 :=
  ⟨by constructor <;> first | decide | simp [s0, sClk, State.reset, State.offer], rfl⟩
theorem wit_EveryStepKeepsMemoryCanonical : Memory.wf [(3, 7), (0xFFFFFFFF, 1)] = true ∧ Memory.wf s0.mem = true ∧
    step (s0.offer .seq) = .next s0 := ⟨by decide, rfl, rfl⟩
theorem wit_MemoryChangesOnlyAtTheCursor :
    let s : State := { sBlk .mrecv .v9 with dr := 7 }
    Memory.wf s.mem = true ∧ (after .seq s).memAt 0 ≠ s.memAt 0 ∧
    (after .seq { sEv .e4s2 with dr := 7 }).memAt 0 ≠ (sEv .e4s2).memAt 0 ∧
    (after (.host (.memStore 5 9)) s0).memAt 5 ≠ s0.memAt 5 := by decide
theorem wit_SessionHoldsOneTransferAtATime :
    (s0.role = .ready ∧ (afterCmd 0x00006814 { s0 with opLen := 1 }).role ≠ .ready) ∧
    (let s : State := { sEv .e2s2 with role := .busyTx }; s.role ≠ .ready ∧ (after .seq s).role = .ready) ∧
    (let s : State := { sEv .e5master with role := .busyTx, remain := 1 }
     s.role ≠ .ready ∧ (after .seq s).role ≠ .ready ∧ (after .seq s).remain ≠ s.remain) := by decide
theorem wit_SessionHoldsOneTransferAtATime_rejected : armsSession (.msendA 0x68 false) = true ∧
    ({ s0 with role := .busyTx } : State).role ≠ .ready ∧
    exec (.msendA 0x68 false) { s0 with role := .busyTx } =
      .next ({ s0 with role := .busyTx }.afterIllegal 0x00006814) := ⟨rfl, by decide, rfl⟩
theorem wit_ErrorFlagsChangeOnlyByRule :
    (ErrFlag.af.get sTxUnit = false ∧ ErrFlag.af.get (after (.wire (.txByte .nack)) sTxUnit) = true) ∧
    (let s : State := { sEr (.err .af .clear) with af := true }
     ErrFlag.af.get s = true ∧ ErrFlag.af.get (after .seq s) = false) := by decide
/-- Both kinds of end: the bus released, and held after a transfer with `rs = 1`. -/
theorem wit_EndStateIsQuiet : EndState ⟨s0, [], false⟩ ∧ EndState ⟨sMaster .mSb, [], true⟩ :=
  ⟨⟨by decide, rfl, by decide, by decide, by decide, .inl rfl⟩,
    ⟨by decide, rfl, by decide, by decide, by decide, .inr (by decide)⟩⟩
/-- A run of one operation that has been issued ends after its one turn. -/
theorem wit_EndStateIsQuiet_run :
    Run.endsAt ⟨s0, [.portWrite .word 0x38 0x05], fun _ => none, fun _ => .host, false⟩ 1 :=
  ⟨⟨by decide, rfl, by decide, by decide, by decide, .inl rfl⟩, fun k hk h => by
    obtain rfl : k = 0 := by omega
    exact absurd h.issued.1 (by decide)⟩
/-- 70_reset_and_hazards.md R349 (e), with the session of V44.7 after its last unit: `RS` counts although the start state
holds it and `CLOSE` clears it. -/
theorem test_R349_start_in_transfer :
    let r : Run := ⟨{ sEv .e4s4 with role := .busyRx, rs := true }, [], fun _ => none, fun _ => .seq, false⟩
    (r.point 1).state.role = .ready ∧ (r.point 1).state.rs = false ∧ (r.point 1).lastRs = true := by decide

end Sys2Proof.Tests
end

/-! The family of 30_encoding.md: what every operation answers where it is legal and where it is not. -/

namespace Sys2Proof.Machine

/-! ### The records of a legal operation -/

/-- The records that operation `i` leaves where it is legal (10_state.md R50), in their order (log 14). -/
def legalRecords (i : Instr) (s : State) : List Rec :=
  match i with
  | .pClkEn => [.prim .clkEn]
  | .pClkDis => [.prim .clkDis]
  | .pPeEn => [.prim .peEn]
  | .pPeDis => [.prim .peDis]
  | .pAckEn => [.prim .ackEn]
  | .pAckDis => [.prim .ackDis]
  | .pStartReq => [.prim .startReq]
  | .pStopReq => [.prim .stopReq]
  | .pAddrW a => [.prim (.addrW a), .drw (addrByte a false)]
  | .pAddrR a => [.prim (.addrR a), .drw (addrByte a true)]
  | .pReadUnit => [.prim .readUnit, .drr s.dr]
  | .pWriteUnit d => [.prim (.writeUnit d), .drw d]
  | .pClearAddr =>
    (if s.role = .busyRx ∧ s.remain = 1 then [.prim .ackDis] else []) ++ [.prim .clearAddr]
  | .pClearStopf => [.prim .clearStopf]
  | .init own fs duty ackp => [.op (.init own fs duty ackp)]
  | .setCb en => [.op (.setCb en)]
  | .msend a rs => [.op (.transfer .msend s.opBuf s.opLen a rs)]
  | .mrecv a rs => [.op (.transfer .mrecv s.opBuf s.opLen a rs)]
  | .msendA a rs => .op (.transfer .msendA s.opBuf s.opLen a rs) ::
      (if s.role = .ready then [.prim .startReq] else [])
  | .mrecvA a rs => .op (.transfer .mrecvA s.opBuf s.opLen a rs) ::
      (if s.role = .ready then [.prim .ackEn, .prim .startReq] else [])
  | .srecv => [.op .srecv, .drr s.dr]
  | .ssend d => [.op (.ssend d), .drw d]
  | .evdisp => [.op .evdisp]
  | .erdisp => [.op .erdisp]

theorem illegal_not_mem_legalRecords (i : Instr) (s : State) (w : Word) :
    Rec.op (.illegal w) ∉ legalRecords i s := by
  cases i
  case pClearAddr | msendA | mrecvA => simp only [legalRecords]; split <;> simp
  all_goals simp [legalRecords]

/-! ### The trace after each shared operation -/

@[simp] theorem drRead_trace (s : State) : (drRead s).trace = s.trace ++ [.drr s.dr] := by
  rw [drRead_eq]

@[simp] theorem drWrite_trace (v : Byte) (s : State) : (drWrite v s).trace = s.trace ++ [.drw v] := by
  rw [drWrite_frame]

theorem clearAddrOp_trace (s : State) :
    (clearAddrOp s).trace = s.trace ++ legalRecords .pClearAddr s := by
  simp only [clearAddrOp_eq, legalRecords, List.append_assoc]

theorem acceptBlocking_trace (t : Transfer) (op : BlockOp) (first : BStep) (a : Addr7) (rs : Bool) (s : State) :
    (acceptBlocking t op first a rs s).trace = s.trace ++ [.op (.transfer t s.opBuf s.opLen a rs)] := by
  by_cases h : s.role = .ready <;> simp [acceptBlocking, h]

/-- Arming adds the records `l` of `arm` to the record of the transfer, if the session is ready. -/
theorem arming_trace (t : Transfer) (a : Addr7) (rs : Bool) (arm : State → State) (l : List Rec)
    (harm : ∀ s : State, (arm s).trace = s.trace ++ l) (s : State) :
    (arming t a rs arm s).trace =
      s.trace ++ .op (.transfer t s.opBuf s.opLen a rs) :: (if s.role = .ready then l else []) := by
  by_cases h : s.role = .ready <;> simp [arming, h, harm]

/-! ### Legal and illegal operations -/

/-- An operation that leaves the records `l` where it is legal, under a condition that says `legal`. -/
theorem issue_cases {p legal : Prop} {_ : Decidable p} (h : p ↔ legal) (w : Word) {s t : State} {l : List Rec}
    (ht : t.trace = s.trace ++ l) :
    (legal ∧ ∃ t' : State, issue p w s t = .next t' ∧ t'.trace = s.trace ++ l) ∨
      (¬ legal ∧ issue p w s t = .next (s.afterIllegal w)) := by
  by_cases hl : legal
  · exact .inl ⟨hl, t, issue_legal (h.mpr hl) w s t, ht⟩
  · exact .inr ⟨hl, issue_illegal (mt h.mp hl) w s t⟩

/-- What an operation answers: its records where it is legal, `illegal()` where it is not. -/
theorem exec_cases (i : Instr) (s : State) :
    (legalIn i s ∧ ∃ t : State, exec i s = .next t ∧ t.trace = s.trace ++ legalRecords i s) ∨
      (¬ legalIn i s ∧ exec i s = .next (s.afterIllegal (encode i))) := by
  cases i with
  | pClkDis | pPeDis => exact issue_cases and_assoc _ rfl
  | pClkEn | pPeEn | pAckEn | pAckDis | pStartReq | pStopReq | pClearStopf | init | setCb | evdisp | erdisp =>
    exact issue_cases Iff.rfl _ rfl
  | pAddrW | pAddrR | pReadUnit | pWriteUnit | srecv | ssend =>
    exact issue_cases Iff.rfl _ (by simp [addrWOp, addrROp, readUnitOp, writeUnitOp, legalRecords])
  | pClearAddr => exact issue_cases Iff.rfl _ (clearAddrOp_trace s)
  | msend | mrecv => exact issue_cases Iff.rfl _ (acceptBlocking_trace _ _ _ _ _ s)
  | msendA => exact issue_cases Iff.rfl _ (arming_trace _ _ _ _ _ (fun _ => rfl) s)
  | mrecvA =>
    have harm (s : State) : (startReqOp (ackEnOp s)).trace = s.trace ++ [.prim .ackEn, .prim .startReq] := by
      simp [startReqOp, ackEnOp]
    exact issue_cases Iff.rfl _ (arming_trace _ _ _ _ _ (fun s => harm (armSession _ _ _ s)) s)

theorem exec_illegal {i : Instr} {s : State} (h : ¬ legalIn i s) :
    exec i s = .next (s.afterIllegal (encode i)) :=
  (exec_cases i s).elim (fun hl => absurd hl.1 h) And.right

theorem exec_legal {i : Instr} {s : State} (h : legalIn i s) :
    ∃ t : State, exec i s = .next t ∧ t.trace = s.trace ++ legalRecords i s :=
  (exec_cases i s).elim And.right (fun hn => absurd h hn.1)

/-- A `CMD` write where HOST has neither context (30_encoding.md R114). -/
theorem runs_cmdMove_blocked {s : State} (h : ¬ s.hostReady) (w : Word) : Runs (cmdMove w) s s :=
  (perform_host_blocked h .word 0x38 w).2

/-- Settles O23: every operation is legal or answers `illegal()` (`exec_cases`), and none of the records of a
legal operation is that of `illegal()`. -/
theorem illegalOperationOnlySetsResult : Obligations.IllegalOperationOnlySetsResult := by
  refine ⟨fun i s _ => ⟨exec_illegal, fun hl => ?_⟩, fun s w hm hc => ?_⟩
  · obtain ⟨t, hexec, htrace⟩ := exec_legal hl
    refine ⟨t, hexec, ?_⟩
    rw [htrace, List.drop_left]
    exact illegal_not_mem_legalRecords i s _
  · exact runs_cmdMove_blocked (by simp [State.hostReady, hm, hc]) w

end Sys2Proof.Machine

/-! The family of 40_primitives.md: the exact effect of a primitive that HOST issues. -/

namespace Sys2Proof.Machine

/-- `irq_ev` is low where no event flag is set (60_exceptions.md R292). -/
theorem irqEv_eq_false_of_no_event {s : State} (hsb : s.sb = false) (haddr : s.addr = false) (hbtf : s.btf = false)
    (hstopf : s.stopf = false) (hrxne : s.rxne = false) (htxe : s.txe = false) : s.irqEv = false := by
  simp [State.irqEv, hsb, haddr, hbtf, hstopf, hrxne, htxe]

theorem exec_pClearStopf_legal {s : State} (h : legalIn .pClearStopf s) :
    exec .pClearStopf s = .next ((clearStopfOp s).setResult 0 0) :=
  issue_legal (p := s.primOk) h _ _ _

/-- Settles O17: where it is legal it does `clearStopfOp` alone, with `CLKEN` = 0 it is not legal. -/
theorem clearStopFlagTouchesNoOtherFlag : Obligations.ClearStopFlagTouchesNoOtherFlag := by
  refine ⟨rfl, fun s hready => ⟨fun hclk => ?_, fun hclk => ?_⟩⟩
  · exact ⟨_, exec_pClearStopf_legal ⟨hready, hclk⟩, rfl, fun hsb haddr hbtf hrxne htxe =>
      irqEv_eq_false_of_no_event hsb haddr hbtf rfl hrxne htxe⟩
  · have hillegal : ¬ legalIn .pClearStopf s := fun ⟨_, hon⟩ => by simp [hclk] at hon
    exact exec_illegal hillegal

end Sys2Proof.Machine

/-! The family of 41_wire_engine.md: what a wire event changes and what it leaves. -/

namespace Sys2Proof.Machine

/-! ### The step of a wire event -/

theorem runs_wire_iff (e : WireEvent) (s t : State) : Runs (.wire e) s t ↔ wireMove e s = t := by
  simp [runs_iff, perform]

theorem runs_wire_enabled {e : WireEvent} {s : State} (h : wireEnabled e s) :
    Runs (.wire e) s (wireEffect e s) :=
  (runs_wire_iff e s _).mpr (wireMove_enabled h)

/-- `W_ERR` has no guard of its own (41_wire_engine.md R162, R184). -/
theorem runs_wireErr {s : State} (hclk : s.clken = true) (hpe : s.pe = true) (f : ErrFlag) :
    Runs (.wire (.err f)) s (wireErr f s) :=
  runs_wire_enabled ⟨hclk, hpe, rfl⟩

/-! ### `OVR` under the wire events -/

@[simp] theorem doStart_ovr (s : State) : (doStart s).ovr = s.ovr := rfl

@[simp] theorem doStop_ovr (s : State) : (doStop s).ovr = s.ovr := by rw [doStop_eq]

@[simp] theorem stopNow_ovr (s : State) : (stopNow s).ovr = s.ovr := by simp [stopNow]

@[simp] theorem restartNow_ovr (s : State) : (restartNow s).ovr = s.ovr := by simp [restartNow]

@[simp] theorem wireStart_ovr (s : State) : (wireStart s).ovr = s.ovr := rfl

@[simp] theorem wireStop_ovr (s : State) : (wireStop s).ovr = s.ovr := by
  cases h : s.msl <;> simp [wireStop, h]

@[simp] theorem wireAddrResult_ovr (a : Ack) (s : State) : (wireAddrResult a s).ovr = s.ovr := by
  cases a with
  | nack => rfl
  | ack => simp only [wireAddrResult]; split <;> rfl

@[simp] theorem wireTxByte_ovr (a : Ack) (s : State) : (wireTxByte a s).ovr = s.ovr := by
  cases a with
  | nack => rfl
  | ack => simp only [wireTxByte]; split_ifs <;> simp

@[simp] theorem rxPlace_ovr (b : Byte) (s : State) : (rxPlace b s).ovr = s.ovr := by
  cases h : s.rxne <;> simp [rxPlace, h]

@[simp] theorem rxAnswer_ovr (a : Ack) (s : State) : (rxAnswer a s).ovr = s.ovr := by
  cases a with
  | ack => rfl
  | nack => cases h : s.msl <;> simp [rxAnswer, h]

@[simp] theorem wireRxByte_ovr (b : Byte) (s : State) : (wireRxByte b s).ovr = s.ovr := by
  simp only [wireRxByte]; split_ifs <;> simp

@[simp] theorem wireEAddress_ovr (a7 : Addr7) (rw : Bool) (s : State) : (wireEAddress a7 rw s).ovr = s.ovr := by
  simp only [wireEAddress]; split <;> rfl

@[simp] theorem wireEStop_ovr (s : State) : (wireEStop s).ovr = s.ovr := rfl

@[simp] theorem wireArlo_ovr (s : State) : (wireArlo s).ovr = s.ovr := rfl

theorem wireErr_ovr_of_ne {f : ErrFlag} (h : f ≠ .ovr) (s : State) : (wireErr f s).ovr = s.ovr := by
  cases f with
  | ovr => exact absurd rfl h
  | berr | arlo | af | timeout => rfl

/-- Of the wire events only `W_ERR(OVR)` changes `OVR`. -/
theorem wireEffect_ovr_of_ne {e : WireEvent} (h : e ≠ .err .ovr) (s : State) :
    (wireEffect e s).ovr = s.ovr := by
  cases e with
  | start => exact wireStart_ovr s
  | stop => exact wireStop_ovr s
  | addrResult a => exact wireAddrResult_ovr a s
  | txByte a => exact wireTxByte_ovr a s
  | rxByte b => exact wireRxByte_ovr b s
  | eAddress a7 rw => exact wireEAddress_ovr a7 rw s
  | eStop => exact wireEStop_ovr s
  | arlo => exact wireArlo_ovr s
  | err f => exact wireErr_ovr_of_ne (fun hf => h (congrArg _ hf)) s

theorem wireMove_ovr_of_ne {e : WireEvent} (h : e ≠ .err .ovr) (s : State) : (wireMove e s).ovr = s.ovr := by
  by_cases hen : wireEnabled e s
  · rw [wireMove_enabled hen, wireEffect_ovr_of_ne h]
  · rw [wireMove_disabled hen]

/-- Settles O32: an error event does `wireErr` alone, and every other wire event keeps `OVR`. -/
theorem errorEventSetsOnlyItsFlag : Obligations.ErrorEventSetsOnlyItsFlag := by
  refine ⟨fun s hclk hpe => ?_, fun s t e hrun hovr htovr => ?_⟩
  · have herr := runs_wireErr hclk hpe
    exact ⟨herr .berr, herr .arlo, herr .af, herr .ovr, herr .timeout⟩
  · by_contra hne
    have hkeep : t.ovr = s.ovr := (runs_wire_iff e s t).mp hrun ▸ wireMove_ovr_of_ne hne s
    simp [hkeep, hovr] at htovr

end Sys2Proof.Machine

/-! The family of 43_async_engine.md: arming a session, and closing it. -/

namespace Sys2Proof.Machine

/-! ### Arming -/

/-- An arming operation on a ready session arms it and returns the role `READY` (R221, R222). -/
theorem arming_of_ready {s : State} (hready : s.role = .ready) (t : Transfer) (a : Addr7) (rs : Bool)
    (arm : State → State) :
    arming t a rs arm s = (arm (s.log (.op (.transfer t s.opBuf s.opLen a rs)))).setResult 0 0 := by
  simp [arming, hready, Role.code]

/-- An arming operation on a busy session returns the role and leaves only its record (R221, R222). -/
theorem arming_of_busy {s : State} (hbusy : s.role ≠ .ready) (t : Transfer) (a : Addr7) (rs : Bool)
    (arm : State → State) :
    arming t a rs arm s = { s with
      resVal := if s.role = .busyRx then 1 else 2, resSt := 0,
      trace := s.trace ++ [.op (.transfer t s.opBuf s.opLen a rs)] } := by
  cases hrole : s.role with
  | ready => exact absurd hrole hbusy
  | busyRx | busyTx => simp [arming, hrole, Role.code, State.log, State.setResult]

theorem exec_msendA_legal {a : Addr7} {rs : Bool} {s : State} (h : legalIn (.msendA a rs) s) :
    exec (.msendA a rs) s =
      .next (arming .msendA a rs (fun s => startReqOp (armSession .busyTx a rs s)) s) :=
  issue_legal (p := s.asyncOk) h _ _ _

theorem exec_mrecvA_legal {a : Addr7} {rs : Bool} {s : State} (h : legalIn (.mrecvA a rs) s) :
    exec (.mrecvA a rs) s =
      .next (arming .mrecvA a rs (fun s => startReqOp (ackEnOp (armSession .busyRx a rs s))) s) :=
  issue_legal (p := s.asyncOk) h _ _ _

/-- The opcode of a word of format FT (30_encoding.md R106). -/
theorem fieldOpc_encFT (a : Addr7) (rs : Bool) (opc : Byte) : fieldOpc (encFT a rs opc) = opc :=
  BitVec.extractLsb'_append_eq_right

/-- Settles O21: where it is legal an arming operation is `arming` (`arming_of_ready`, `arming_of_busy`); with
the clock gated or a length of 0 it is not legal. -/
theorem armingIsAcceptedOnlyWhileReady : Obligations.ArmingIsAcceptedOnlyWhileReady := by
  refine fun s a rs => ⟨fun hhost hclk hlen => ?_, fun hbad => ?_, fieldOpc_encFT a rs _, fieldOpc_encFT a rs _⟩
  · rw [exec_msendA_legal ⟨hhost, hclk, hlen⟩, exec_mrecvA_legal ⟨hhost, hclk, hlen⟩]
    refine ⟨fun hready => ?_, fun hbusy => ?_⟩
    · simp [arming_of_ready hready, armSession, startReqOp, ackEnOp, State.log, State.setResult]
    · exact ⟨congrArg _ (arming_of_busy hbusy ..), congrArg _ (arming_of_busy hbusy ..)⟩
  · have hillegal : ¬ ((s.seqMode = .idle ∨ s.cbw = true) ∧ s.clken = true ∧ s.opLen ≠ 0) := by
      rintro ⟨-, hclk, hlen⟩
      rcases hbad with hoff | hzero
      · simp [hclk] at hoff
      · exact hlen hzero
    exact ⟨exec_illegal (i := .msendA a rs) hillegal, exec_illegal (i := .mrecvA a rs) hillegal⟩

/-! ### The closing sequence -/

/-- SEQ's step in the event dispatcher. -/
theorem runs_seq_ev {s : State} (hclk : s.clken = true) (hcbw : s.cbw = false) (hmode : s.seqMode = .ev) :
    Runs .seq s (dispatcherStep s) := by
  rw [runs_iff, perform, seqMove_running hclk hcbw, hmode]

/-- The actions E2.2 and E4.4 of the event dispatcher (44_dispatcher.md R250, R253). -/
theorem dispatcherStep_of_close {s : State} (hpos : s.dpc = .e2s2 ∨ s.dpc = .e4s4) :
    dispatcherStep s = { closeOp s with dpc := if s.dpc = .e2s2 then .e2s3 else .e4s5 } := by
  rcases hpos with hpos | hpos <;> simp [dispatcherStep, hpos]

/-- What an operation adds to the trace: its records, or that of `illegal()`. -/
theorem exec_newRecords {i : Instr} {s t : State} (h : exec i s = .next t) :
    t.trace.drop s.trace.length = legalRecords i s ∨
      t.trace.drop s.trace.length = [.op (.illegal (encode i))] := by
  rcases exec_cases i s with ⟨-, t', hexec, htrace⟩ | ⟨-, hexec⟩ <;>
    obtain rfl := Host.Outcome.next.inj (h.symm.trans hexec)
  · exact .inl (by rw [htrace, List.drop_left])
  · exact .inr List.drop_left

theorem close_not_mem_legalRecords (i : Instr) (s : State) : Rec.close ∉ legalRecords i s := by
  cases i
  case pClearAddr | msendA | mrecvA => simp only [legalRecords]; split <;> simp
  all_goals simp [legalRecords]

/-- Settles O39: the dispatcher's steps at E2.2 and E4.4 are `closeOp`, and no operation leaves its record. -/
theorem closingSequenceResetsTheSession : Obligations.ClosingSequenceResetsTheSession := by
  refine ⟨fun s hclk hcbw hmode hpos => ?_, fun i s t hexec => ?_, fun s => ⟨?_, rfl, rfl⟩⟩
  · exact dispatcherStep_of_close hpos ▸ runs_seq_ev hclk hcbw hmode
  · rcases exec_newRecords hexec with hnew | hnew <;> rw [hnew]
    · exact close_not_mem_legalRecords i s
    · simp
  · rw [closeOp_closeOp]
    simp [closeOp, State.log]

end Sys2Proof.Machine

/-! The family of 45_slave_and_system.md: the two system operations. -/

namespace Sys2Proof.Machine

/-- `INIT` where it is legal, also with the clock gated (R270). -/
theorem exec_init_legal {own : Addr7} {fs duty ackp : Bool} {s : State} (h : legalIn (.init own fs duty ackp) s) :
    exec (.init own fs duty ackp) s = .next { s with
      clken := true, fs := fs, duty := duty, own := own, ack := ackp, resVal := 0, resSt := 0,
      trace := s.trace ++ [.op (.init own fs duty ackp)] } :=
  issue_legal (p := s.initOk) h _ _ _

/-- `SET_CB` where it is legal (R272). -/
theorem exec_setCb_legal {en : Bool} {s : State} (h : legalIn (.setCb en) s) :
    exec (.setCb en) s = .next { s with
      cbEn := en, resVal := 0, resSt := 0, trace := s.trace ++ [.op (.setCb en)] } :=
  issue_legal (p := s.apiOk) h _ _ _

/-- Settles O18: `exec_init_legal`, and each of the three conditions that R270 excludes makes it illegal. -/
theorem initWritesTheConfiguration : Obligations.InitWritesTheConfiguration := by
  refine ⟨fun s own fs duty ackp => ⟨fun hidle hpe hready => ?_, fun hbad => ?_⟩, rfl, ?_⟩
  · exact exec_init_legal ⟨hidle, hpe, hready⟩
  · have hillegal : ¬ legalIn (.init own fs duty ackp) s := by
      rintro ⟨hidle, hpe, hready⟩
      rcases hbad with hmode | hon | hbusy
      · exact hmode hidle
      · simp [hpe] at hon
      · exact hbusy hready
    exact exec_illegal hillegal
  · exact ⟨_, exec_init_legal ⟨rfl, rfl, rfl⟩, rfl, rfl, rfl, rfl⟩

/-- Settles O19: `exec_setCb_legal` in either context, and with `CLKEN` = 0 it is not legal. -/
theorem setCallbackAttachesTheHandler : Obligations.SetCallbackAttachesTheHandler := by
  refine ⟨rfl, fun s en hready => ⟨fun hclk => ?_, fun hclk => ?_⟩⟩
  · exact exec_setCb_legal ⟨hready, hclk⟩
  · have hillegal : ¬ legalIn (.setCb en) s := fun ⟨_, hon⟩ => by simp [hclk] at hon
    exact exec_illegal hillegal

end Sys2Proof.Machine

/-! The family of 60_exceptions.md: the two interrupt lines. -/

namespace Sys2Proof.Machine

/-- `ITEVTEN` masks every event flag; `ITBUFEN` alone enables nothing (R292). -/
theorem irqEv_eq_true_iff {s : State} : s.irqEv = true ↔ s.itevten = true ∧
    (s.sb = true ∨ s.addr = true ∨ s.btf = true ∨ s.stopf = true ∨
      (s.itbufen = true ∧ (s.txe = true ∨ s.rxne = true))) := by
  simp only [State.irqEv, Bool.and_eq_true, Bool.or_eq_true, or_assoc]

/-- `ITERREN` masks every error flag (R292). -/
theorem irqEr_eq_true_iff {s : State} : s.irqEr = true ↔ s.iterren = true ∧
    (s.berr = true ∨ s.arlo = true ∨ s.af = true ∨ s.ovr = true ∨ s.timeout = true) := by
  simp only [State.irqEr, Bool.and_eq_true, Bool.or_eq_true, or_assoc]

/-- Settles O44: `irqEv_eq_true_iff` and `irqEr_eq_true_iff` at every state. -/
theorem interruptLinesFollowFlagsAndEnables : Obligations.InterruptLinesFollowFlagsAndEnables :=
  fun _ => ⟨irqEv_eq_true_iff, irqEr_eq_true_iff⟩

end Sys2Proof.Machine

/-! The family of 30_encoding.md, decoder and encoder: they agree, and the decoder is the opcode map. -/

namespace Sys2Proof.Machine

/-! ### The bits of the six formats -/

theorem getLsbD_encF0 (opc : Byte) (n : Nat) : (encF0 opc).getLsbD n = opc.getLsbD n := by
  refine BitVec.getLsbD_append.trans ?_
  grind

theorem getLsbD_encFA (a : Addr7) (opc : Byte) (n : Nat) :
    (encFA a opc).getLsbD n = if n < 8 then opc.getLsbD n else a.getLsbD (n - 8) := by
  refine BitVec.getLsbD_append.trans ?_
  simp only [BitVec.getLsbD_append]
  grind

theorem getLsbD_encFD (d : Byte) (opc : Byte) (n : Nat) :
    (encFD d opc).getLsbD n = if n < 8 then opc.getLsbD n else d.getLsbD (n - 8) := by
  refine BitVec.getLsbD_append.trans ?_
  simp only [BitVec.getLsbD_append]
  grind

theorem getLsbD_encFT (a : Addr7) (rs : Bool) (opc : Byte) (n : Nat) :
    (encFT a rs opc).getLsbD n =
      if n < 8 then opc.getLsbD n else if n < 16 then a.getLsbD (n - 8) else decide (n = 16) && rs := by
  refine BitVec.getLsbD_append.trans ?_
  simp only [BitVec.getLsbD_append, BitVec.getLsbD_ofBool]
  by_cases n = 16 <;> grind

theorem getLsbD_encFI (own : Addr7) (fs duty ackp : Bool) (opc : Byte) (n : Nat) :
    (encFI own fs duty ackp opc).getLsbD n =
      if n < 8 then opc.getLsbD n else if n < 16 then own.getLsbD (n - 8)
      else decide (n = 16) && fs || decide (n = 17) && duty || decide (n = 18) && ackp := by
  refine BitVec.getLsbD_append.trans ?_
  simp only [BitVec.getLsbD_append, BitVec.getLsbD_ofBool]
  by_cases n = 16 <;> by_cases n = 17 <;> by_cases n = 18 <;> grind

theorem getLsbD_encFC (en : Bool) (opc : Byte) (n : Nat) :
    (encFC en opc).getLsbD n = if n < 8 then opc.getLsbD n else decide (n = 8) && en := by
  refine BitVec.getLsbD_append.trans ?_
  simp only [BitVec.getLsbD_append, BitVec.getLsbD_ofBool]
  by_cases n = 8 <;> grind

/-! ### The fields of an encoded word -/

@[simp] theorem fieldOpc_encF0 (opc : Byte) : fieldOpc (encF0 opc) = opc :=
  BitVec.extractLsb'_append_eq_right

@[simp] theorem fieldOpc_encFA (a : Addr7) (opc : Byte) : fieldOpc (encFA a opc) = opc :=
  BitVec.extractLsb'_append_eq_right

@[simp] theorem fieldOpc_encFD (d opc : Byte) : fieldOpc (encFD d opc) = opc :=
  BitVec.extractLsb'_append_eq_right

@[simp] theorem fieldOpc_encFI (own : Addr7) (fs duty ackp : Bool) (opc : Byte) :
    fieldOpc (encFI own fs duty ackp opc) = opc :=
  BitVec.extractLsb'_append_eq_right

@[simp] theorem fieldOpc_encFC (en : Bool) (opc : Byte) : fieldOpc (encFC en opc) = opc :=
  BitVec.extractLsb'_append_eq_right

theorem getLsbD_fieldA7 (w : Word) (n : Nat) : (fieldA7 w).getLsbD n = (decide (n < 7) && w.getLsbD (8 + n)) :=
  BitVec.getLsbD_extractLsb' 8 _ w n

theorem getLsbD_fieldD8 (w : Word) (n : Nat) : (fieldD8 w).getLsbD n = (decide (n < 8) && w.getLsbD (8 + n)) :=
  BitVec.getLsbD_extractLsb' 8 _ w n

@[simp] theorem fieldA7_encFA (a : Addr7) (opc : Byte) : fieldA7 (encFA a opc) = a :=
  BitVec.eq_of_getLsbD_eq fun n hn => by rw [getLsbD_fieldA7, getLsbD_encFA]; simp [hn]

@[simp] theorem fieldD8_encFD (d opc : Byte) : fieldD8 (encFD d opc) = d :=
  BitVec.eq_of_getLsbD_eq fun n hn => by rw [getLsbD_fieldD8, getLsbD_encFD]; simp [hn]

@[simp] theorem fieldA7_encFT (a : Addr7) (rs : Bool) (opc : Byte) : fieldA7 (encFT a rs opc) = a :=
  BitVec.eq_of_getLsbD_eq fun n hn => by
    have h16 : 8 + n < 16 := by omega
    rw [getLsbD_fieldA7, getLsbD_encFT]; simp [hn, h16]

@[simp] theorem fieldA7_encFI (own : Addr7) (fs duty ackp : Bool) (opc : Byte) :
    fieldA7 (encFI own fs duty ackp opc) = own :=
  BitVec.eq_of_getLsbD_eq fun n hn => by
    have h16 : 8 + n < 16 := by omega
    rw [getLsbD_fieldA7, getLsbD_encFI]; simp [hn, h16]

@[simp] theorem fieldB16_encFT (a : Addr7) (rs : Bool) (opc : Byte) : fieldB16 (encFT a rs opc) = rs := by
  rw [fieldB16, getLsbD_encFT]; simp

@[simp] theorem fieldB16_encFI (own : Addr7) (fs duty ackp : Bool) (opc : Byte) :
    fieldB16 (encFI own fs duty ackp opc) = fs := by
  rw [fieldB16, getLsbD_encFI]; simp

@[simp] theorem fieldB17_encFI (own : Addr7) (fs duty ackp : Bool) (opc : Byte) :
    fieldB17 (encFI own fs duty ackp opc) = duty := by
  rw [fieldB17, getLsbD_encFI]; simp

@[simp] theorem fieldB18_encFI (own : Addr7) (fs duty ackp : Bool) (opc : Byte) :
    fieldB18 (encFI own fs duty ackp opc) = ackp := by
  rw [fieldB18, getLsbD_encFI]; simp

@[simp] theorem fieldEn_encFC (en : Bool) (opc : Byte) : fieldEn (encFC en opc) = en := by
  rw [fieldEn, getLsbD_encFC]; simp

/-! ### A word under its format's mask (R102 to R104, R106 to R108) -/

@[simp] theorem encF0_and_maskF0 (opc : Byte) : encF0 opc &&& maskF0 = opc.setWidth 32 :=
  BitVec.eq_of_getLsbD_eq fun n hn => by
    rw [BitVec.getLsbD_and, getLsbD_encF0]
    interval_cases n <;> simp [maskF0]

@[simp] theorem encFA_and_maskFA (a : Addr7) (opc : Byte) : encFA a opc &&& maskFA = opc.setWidth 32 :=
  BitVec.eq_of_getLsbD_eq fun n hn => by
    rw [BitVec.getLsbD_and, getLsbD_encFA]
    interval_cases n <;> simp [maskFA]

@[simp] theorem encFD_and_maskFD (d opc : Byte) : encFD d opc &&& maskFD = opc.setWidth 32 :=
  BitVec.eq_of_getLsbD_eq fun n hn => by
    rw [BitVec.getLsbD_and, getLsbD_encFD]
    interval_cases n <;> simp [maskFD]

@[simp] theorem encFT_and_maskFT (a : Addr7) (rs : Bool) (opc : Byte) :
    encFT a rs opc &&& maskFT = opc.setWidth 32 :=
  BitVec.eq_of_getLsbD_eq fun n hn => by
    rw [BitVec.getLsbD_and, getLsbD_encFT]
    interval_cases n <;> simp [maskFT]

@[simp] theorem encFI_and_maskFI (own : Addr7) (fs duty ackp : Bool) (opc : Byte) :
    encFI own fs duty ackp opc &&& maskFI = opc.setWidth 32 :=
  BitVec.eq_of_getLsbD_eq fun n hn => by
    rw [BitVec.getLsbD_and, getLsbD_encFI]
    interval_cases n <;> simp [maskFI]

@[simp] theorem encFC_and_maskFC (en : Bool) (opc : Byte) : encFC en opc &&& maskFC = opc.setWidth 32 :=
  BitVec.eq_of_getLsbD_eq fun n hn => by
    rw [BitVec.getLsbD_and, getLsbD_encFC]
    interval_cases n <;> simp [maskFC]

/-- Settles O1: the opcode of the word selects the operation's row, its mask accepts the word, and each field
of the format gives its operand back. -/
theorem decodeOfEncodeIsTheInstruction : Obligations.DecodeOfEncodeIsTheInstruction := by
  intro i
  cases i <;> simp [encode, decode, accept, fieldOpc_encFT]

/-! ### A word from its fields -/

/-- The bits that a format's mask fixes are those of the opcode. -/
theorem getLsbD_of_and_mask {w mask : Word} {opc : Byte} (h : w &&& mask = opc.setWidth 32) {n : Nat}
    (hn : n < 32) (hmask : mask.getLsbD n = true) : w.getLsbD n = opc.getLsbD n := by
  have hn' := congrArg (BitVec.getLsbD · n) h
  simpa only [BitVec.getLsbD_and, hmask, Bool.and_true, BitVec.getLsbD_setWidth, hn, decide_true,
    Bool.true_and] using hn'

theorem encF0_eq_of_and_mask {w : Word} {opc : Byte} (h : w &&& maskF0 = opc.setWidth 32) : encF0 opc = w :=
  BitVec.eq_of_getLsbD_eq fun n hn => by
    have hfixed := getLsbD_of_and_mask h hn
    rw [getLsbD_encF0]
    interval_cases n <;> simp_all [maskF0]

theorem encFA_eq_of_and_mask {w : Word} {opc : Byte} (h : w &&& maskFA = opc.setWidth 32) :
    encFA (fieldA7 w) opc = w :=
  BitVec.eq_of_getLsbD_eq fun n hn => by
    have hfixed := getLsbD_of_and_mask h hn
    rw [getLsbD_encFA, getLsbD_fieldA7]
    interval_cases n <;> simp_all [maskFA]

theorem encFD_eq_of_and_mask {w : Word} {opc : Byte} (h : w &&& maskFD = opc.setWidth 32) :
    encFD (fieldD8 w) opc = w :=
  BitVec.eq_of_getLsbD_eq fun n hn => by
    have hfixed := getLsbD_of_and_mask h hn
    rw [getLsbD_encFD, getLsbD_fieldD8]
    interval_cases n <;> simp_all [maskFD]

theorem encFT_eq_of_and_mask {w : Word} {opc : Byte} (h : w &&& maskFT = opc.setWidth 32) :
    encFT (fieldA7 w) (fieldB16 w) opc = w :=
  BitVec.eq_of_getLsbD_eq fun n hn => by
    have hfixed := getLsbD_of_and_mask h hn
    rw [getLsbD_encFT, getLsbD_fieldA7, fieldB16]
    interval_cases n <;> simp_all [maskFT]

theorem encFI_eq_of_and_mask {w : Word} {opc : Byte} (h : w &&& maskFI = opc.setWidth 32) :
    encFI (fieldA7 w) (fieldB16 w) (fieldB17 w) (fieldB18 w) opc = w :=
  BitVec.eq_of_getLsbD_eq fun n hn => by
    have hfixed := getLsbD_of_and_mask h hn
    rw [getLsbD_encFI, getLsbD_fieldA7, fieldB16, fieldB17, fieldB18]
    interval_cases n <;> simp_all [maskFI]

theorem encFC_eq_of_and_mask {w : Word} {opc : Byte} (h : w &&& maskFC = opc.setWidth 32) :
    encFC (fieldEn w) opc = w :=
  BitVec.eq_of_getLsbD_eq fun n hn => by
    have hfixed := getLsbD_of_and_mask h hn
    rw [getLsbD_encFC, fieldEn]
    interval_cases n <;> simp_all [maskFC]

theorem accept_eq_ok_iff {mask mtch w : Word} {i j : Instr} :
    accept mask mtch w i = .ok j ↔ w &&& mask = mtch ∧ i = j := by
  by_cases h : w &&& mask = mtch <;> simp [accept, h]

/-- Settles O2: each arm of the decoder accepts a word only under its format's mask, and there the word is the
encoding of its fields. -/
theorem encodeOfDecodeIsTheWord : Obligations.EncodeOfDecodeIsTheWord := by
  intro w i h
  unfold decode at h
  split at h
  case h_25 => cases h
  all_goals obtain ⟨hmask, rfl⟩ := accept_eq_ok_iff.mp h
  case h_9 | h_10 => exact encFA_eq_of_and_mask hmask
  case h_12 | h_22 => exact encFD_eq_of_and_mask hmask
  case h_15 => exact encFI_eq_of_and_mask hmask
  case h_16 => exact encFC_eq_of_and_mask hmask
  case h_17 | h_18 | h_19 | h_20 => exact encFT_eq_of_and_mask hmask
  all_goals exact encF0_eq_of_and_mask hmask

end Sys2Proof.Machine

namespace Sys2Proof.Machine

/-- Decoder and encoder are inverse to each other (30_encoding.md section 2). -/
theorem decode_eq_ok_iff {w : Word} {i : Instr} : decode w = .ok i ↔ encode i = w :=
  ⟨encodeOfDecodeIsTheWord w i, fun h => h ▸ decodeOfEncodeIsTheInstruction i⟩

/-! ### The opcode map (R109) -/

open Laws.EncodeMatchesRow in
theorem encode_matches_row (i : Instr) : i.row ∈ opcodeMap ∧ i.row.matchesWord (encode i) = true :=
  match i with
  | .pClkEn => pClkEn
  | .pClkDis => pClkDis
  | .pPeEn => pPeEn
  | .pPeDis => pPeDis
  | .pAckEn => pAckEn
  | .pAckDis => pAckDis
  | .pStartReq => pStartReq
  | .pStopReq => pStopReq
  | .pAddrW a => pAddrW a
  | .pAddrR a => pAddrR a
  | .pReadUnit => pReadUnit
  | .pWriteUnit d => pWriteUnit d
  | .pClearAddr => pClearAddr
  | .pClearStopf => pClearStopf
  | .init own fs duty ackp => init own fs duty ackp
  | .setCb en => setCb en
  | .msend a rs => msend a rs
  | .mrecv a rs => mrecv a rs
  | .msendA a rs => msendA a rs
  | .mrecvA a rs => mrecvA a rs
  | .srecv => srecv
  | .ssend d => ssend d
  | .evdisp => evdisp
  | .erdisp => erdisp

theorem fieldOpc_and (w mask : Word) : fieldOpc (w &&& mask) = fieldOpc w &&& fieldOpc mask :=
  BitVec.extractLsb'_and

/-- Every row fixes all eight bits of the opcode. -/
theorem fieldOpc_mask_of_mem {r : OpcodeRow} (hr : r ∈ opcodeMap) : fieldOpc r.mask = 0xFF := by
  revert r
  decide

theorem fieldOpc_of_matchesWord {r : OpcodeRow} {w : Word} (hr : r ∈ opcodeMap) (h : r.matchesWord w = true) :
    fieldOpc w = r.mtch.setWidth 8 := by
  have hand : w &&& r.mask = r.mtch := by simpa [OpcodeRow.matchesWord] using h
  have hopc : fieldOpc w &&& 0xFF = fieldOpc r.mtch := by
    rw [← fieldOpc_mask_of_mem hr, ← fieldOpc_and, hand]
  rw [BitVec.setWidth_eq_extractLsb' (by decide)]
  exact (BitVec.and_allOnes (x := fieldOpc w)).symm.trans hopc

/-- The decoder at a row's opcode tests that row's mask. -/
theorem decode_of_mem {r : OpcodeRow} {w : Word} (hr : r ∈ opcodeMap) (h : fieldOpc w = r.mtch.setWidth 8) :
    ∃ i : Instr, decode w = accept r.mask r.mtch w i ∧ i.row = r := by
  unfold decode
  rw [h]
  simp only [opcodeMap, List.mem_cons, List.not_mem_nil, or_false] at hr
  rcases hr with rfl | rfl | rfl | rfl | rfl | rfl | rfl | rfl | rfl | rfl | rfl | rfl | rfl | rfl | rfl | rfl |
    rfl | rfl | rfl | rfl | rfl | rfl | rfl | rfl <;> exact ⟨_, rfl, rfl⟩

theorem decode_of_matchesWord {r : OpcodeRow} {w : Word} (hr : r ∈ opcodeMap) (h : r.matchesWord w = true) :
    ∃ i : Instr, decode w = .ok i ∧ i.row = r := by
  obtain ⟨i, hdecode, hrow⟩ := decode_of_mem hr (fieldOpc_of_matchesWord hr h)
  exact ⟨i, hdecode.trans (if_pos (by simpa [OpcodeRow.matchesWord] using h)), hrow⟩

/-- Settles O3: a decoding word is an encoding, which is in its row; at a row's opcode the decoder tests that
row's mask; and two rows of one word are those of the one operation it decodes to. -/
theorem decodeFollowsTheOpcodeMap : Obligations.DecodeFollowsTheOpcodeMap := by
  refine ⟨fun w i h => ?_, fun w r hr h => decode_of_matchesWord hr h, fun w r r' hr hr' h h' => ?_⟩
  · exact decode_eq_ok_iff.mp h ▸ encode_matches_row i
  · obtain ⟨i, hi, rfl⟩ := decode_of_matchesWord hr h
    obtain ⟨j, hj, rfl⟩ := decode_of_matchesWord hr' h'
    rw [Except.ok.inj (hi.symm.trans hj)]

/-! ### Reserved words (R111, R112) -/

theorem decode_of_reservedOpcode {w : Word}
    (h : (fieldOpc w).toNat = 0x00 ∨ (fieldOpc w).toNat = 0x0F ∨ 0x1A ≤ (fieldOpc w).toNat) :
    decode w = .error .reservedOpcode := by
  unfold decode
  split
  case h_25 => rfl
  all_goals omega

theorem runs_cmdMove_error {s : State} {w : Word} {e : DecodeError} (hready : s.hostReady)
    (h : decode w = .error e) : Runs (cmdMove w) s ({ s with cmd := w }.afterIllegal w) := by
  rw [runs_iff, perform_cmdMove hready, command_error h, illegal_eq]

/-- Settles O4: no arm of the decoder has such an opcode; at an assigned opcode a word outside the row fails the
row's mask; and HOST's write of a word that does not decode is `illegal()`. -/
theorem reservedWordsAreIllegal : Obligations.ReservedWordsAreIllegal := by
  refine ⟨fun w h => decode_of_reservedOpcode ?_, fun w r hr hopc hmask => ?_, fun s w e => runs_cmdMove_error⟩
  · rcases h with h | h | h
    · exact .inl (by rw [h]; rfl)
    · exact .inr (.inl (by rw [h]; rfl))
    · exact .inr (.inr h)
  · obtain ⟨i, hdecode, -⟩ := decode_of_mem hr hopc
    exact hdecode.trans (if_neg (by simpa [OpcodeRow.matchesWord] using hmask))

/-- Settles O5: the decoder evaluated on each word. -/
theorem wordsDecodeAsWrittenOut : Obligations.WordsDecodeAsWrittenOut := by
  unfold Obligations.WordsDecodeAsWrittenOut
  decide

/-! ### The address-phase byte (R105) -/

theorem getLsbD_addrByte (a : Addr7) (rw : Bool) (n : Nat) :
    (addrByte a rw).getLsbD n = if n = 0 then rw else a.getLsbD (n - 1) := by
  refine BitVec.getLsbD_append.trans ?_
  rw [BitVec.getLsbD_ofBool]
  by_cases h : n = 0 <;> simp [h]

/-- Settles O6: bit by bit, by `getLsbD_addrByte`. -/
theorem addressByteIsShiftedAddressWithDirection : Obligations.AddressByteIsShiftedAddressWithDirection := by
  refine ⟨fun a rw => ⟨?_, ?_, getLsbD_addrByte a rw 0⟩, rfl, rfl⟩
  · refine BitVec.eq_of_getLsbD_eq fun n hn => ?_
    rw [getLsbD_addrByte]
    cases rw <;> interval_cases n <;> simp
  · exact BitVec.eq_of_getLsbD_eq fun n hn => by
      rw [BitVec.getLsbD_extractLsb', getLsbD_addrByte]
      simp [hn]

end Sys2Proof.Machine

namespace Sys2Proof.Machine

/-! ### The move that a step performs -/

theorem takeMove_frame (s : State) :
    takeMove s = { s with schedule := (takeMove s).schedule, tick := (takeMove s).tick } := by
  unfold takeMove
  split <;> rfl

theorem hostReady_makeReady (s : State) : s.makeReady.hostReady := by
  unfold State.makeReady
  split
  · assumption
  · exact .inl rfl

theorem decode_of_decodeTableWord {w : Nat} {i : Instr} (h : decodeTableWord 32 w = some i) :
    decode (tableWord 32 w) = .ok i := by
  unfold decodeTableWord at h
  split at h
  case h_1 j hj => rw [hj, Option.some.inj h]
  case h_2 => cases h

theorem step_offer_cmdMove {s : State} {w : Word} {i : Instr} (hready : s.hostReady) (h : decode w = .ok i) :
    step (s.offer (cmdMove w)) = exec i { s with cmd := w } := by
  rw [step_offer, perform_cmdMove hready, command_ok h]

/-- Settles O7: `step` performs `nextMove`, and a `CMD` write where HOST can issue runs the decoded operation
(`step_offer_cmdMove`). -/
theorem stepRunsTheDecodedCommand : Obligations.StepRunsTheDecodedCommand := by
  refine ⟨fun s m rest h => ?_, fun s h => ?_, fun s w i => step_offer_cmdMove, fun s w i hw h => ?_⟩
  · simp [step, nextMove, takeMove, h]
  · simp [step, nextMove, takeMove, h]
  · have hword : tableWord 32 w = BitVec.ofNat 32 w := by rw [tableWord, Nat.mod_eq_of_lt hw]
    rw [State.withFetchWord, step_offer_cmdMove (hostReady_makeReady s) (decode_of_decodeTableWord h), hword]

/-! ### What an operation does -/

/-- What operation `i` does in the step in which HOST issues it, where it is legal. -/
def legalEffect (i : Instr) (s : State) : State :=
  match i with
  | .pClkEn => (clkEnOp s).setResult 0 0
  | .pClkDis => (clkDisOp s).setResult 0 0
  | .pPeEn => (peEnOp s).setResult 0 0
  | .pPeDis => (peDisOp s).setResult 0 0
  | .pAckEn => (ackEnOp s).setResult 0 0
  | .pAckDis => (ackDisOp s).setResult 0 0
  | .pStartReq => (startReqOp s).setResult 0 0
  | .pStopReq => (stopReqOp s).setResult 0 0
  | .pAddrW a => (addrWOp a s).setResult 0 0
  | .pAddrR a => (addrROp a s).setResult 0 0
  | .pReadUnit => (readUnitOp s).setResult s.dr 0
  | .pWriteUnit d => (writeUnitOp d s).setResult 0 0
  | .pClearAddr => (clearAddrOp s).setResult 0 0
  | .pClearStopf => (clearStopfOp s).setResult 0 0
  | .init own fs duty ackp =>
    ({ s with clken := true, fs := fs, duty := duty, own := own, ack := ackp }.log
      (.op (.init own fs duty ackp))).setResult 0 0
  | .setCb en => ({ s with cbEn := en }.log (.op (.setCb en))).setResult 0 0
  | .msend a rs => acceptBlocking .msend .msend .t0 a rs s
  | .mrecv a rs => acceptBlocking .mrecv .mrecv .v0 a rs s
  | .msendA a rs => arming .msendA a rs (fun s => startReqOp (armSession .busyTx a rs s)) s
  | .mrecvA a rs => arming .mrecvA a rs (fun s => startReqOp (ackEnOp (armSession .busyRx a rs s))) s
  | .srecv => (drRead (s.log (.op .srecv))).setResult s.dr 0
  | .ssend d => (drWrite d (s.log (.op (.ssend d)))).setResult 0 0
  | .evdisp => enterDispatcher .ev s
  | .erdisp => enterDispatcher .er s

/-- An operation under a condition that says `legal`. -/
theorem issue_of_iff {p legal : Prop} {_ : Decidable p} (hp : p ↔ legal) (h : legal) (w : Word) (s t : State) :
    issue p w s t = .next t :=
  issue_legal (hp.mpr h) w s t

theorem exec_of_legal {i : Instr} {s : State} (h : legalIn i s) : exec i s = .next (legalEffect i s) := by
  cases i with
  | pClkDis | pPeDis => exact issue_of_iff and_assoc h _ _ _
  | pClkEn | pPeEn | pAckEn | pAckDis | pStartReq | pStopReq | pAddrW | pAddrR | pReadUnit | pWriteUnit
  | pClearAddr | pClearStopf | init | setCb | msend | mrecv | msendA | mrecvA | srecv | ssend | evdisp | erdisp =>
    exact issue_of_iff Iff.rfl h _ _ _

/-- Everything an operation can answer. -/
theorem exec_eq_next {i : Instr} {s t : State} (h : exec i s = .next t) :
    (legalIn i s ∧ t = legalEffect i s) ∨ (¬ legalIn i s ∧ t = s.afterIllegal (encode i)) := by
  by_cases hl : legalIn i s
  · exact .inl ⟨hl, Host.Outcome.next.inj (h.symm.trans (exec_of_legal hl))⟩
  · exact .inr ⟨hl, Host.Outcome.next.inj (h.symm.trans (exec_illegal hl))⟩

/-! ### What a move does -/

/-- Everything one move of one agent can do. -/
inductive Moved (s : State) : Move → State → Prop
  /-- A move that is not enabled. -/
  | blocked (m : Move) : Moved s m s
  | portRead (width : PortWidth) (off : Offset) (hready : s.hostReady) :
      Moved s (.host (.portRead width off)) (regRead (portReg width off) s)
  | portWrite (width : PortWidth) (off : Offset) (w : Word) (hready : s.hostReady)
      (hreg : portReg width off ≠ .cmd) :
      Moved s (.host (.portWrite width off w)) (regWrite (portReg width off) w s)
  | operation (w : Word) (i : Instr) (hready : s.hostReady) (hdecode : decode w = .ok i) (hlegal : legalIn i s) :
      Moved s (cmdMove w) (legalEffect i { s with cmd := w })
  | illegalWord (w : Word) (hready : s.hostReady) :
      Moved s (cmdMove w) ({ s with cmd := w }.afterIllegal w)
  | cbDone (hcbw : s.cbw = true) : Moved s (.host .cbDone) (callbackDone s)
  | memStore (a : Word) (v : Byte) : Moved s (.host (.memStore a v)) (s.memPut a v)
  | blocking (hcbw : s.cbw = false) (hmode : s.seqMode = .blk) : Moved s .seq (blockingStep s)
  | dispatcher (hcbw : s.cbw = false) (hmode : s.seqMode = .ev ∨ s.seqMode = .er) :
      Moved s .seq (dispatcherStep s)
  | wire (e : WireEvent) (hen : wireEnabled e s) : Moved s (.wire e) (wireEffect e s)
  | entered (l : IrqLine) (hmode : s.seqMode = .idle) (hclk : s.clken = true) :
      Moved s (.pulse l) (enterDispatcher l s)
  | illegalPulse (l : IrqLine) (hclk : s.clken = false) : Moved s (.pulse l) (s.afterIllegal (encode l.instr))
  | reset : Moved s .reset (resetMove s)

theorem portReg_eq_cmd {width : PortWidth} {off : Offset} (h : portReg width off = .cmd) :
    width = .word ∧ off = 0x38 := by
  cases width with
  | other => cases h
  | word => exact ⟨rfl, by revert off; decide⟩

theorem hostMove_portWrite (s : State) (width : PortWidth) (off : Offset) (w : Word) :
    hostMove (.portWrite width off w) s =
      if s.hostReady then portWrite (portReg width off) w s else .next s := rfl

/-- A `CMD` write issues an operation, or is `illegal()`. -/
theorem moved_of_command {s t : State} {w : Word} (hready : s.hostReady) (h : command w s = .next t) :
    Moved s (cmdMove w) t := by
  cases hdecode : decode w with
  | error e =>
    obtain rfl := Host.Outcome.next.inj ((command_error hdecode s).symm.trans h)
    exact .illegalWord w hready
  | ok i =>
    rw [command_ok hdecode] at h
    rcases exec_eq_next h with ⟨hlegal, rfl⟩ | ⟨-, rfl⟩
    · have hlegal' : legalIn i s := by cases i <;> exact hlegal
      exact .operation w i hready hdecode hlegal'
    · rw [decode_eq_ok_iff.mp hdecode]
      exact .illegalWord w hready

theorem moved_of_hostMove {s t : State} {a : HostAct} (h : hostMove a s = .next t) : Moved s (.host a) t := by
  cases a with
  | portRead width off =>
    obtain rfl := Host.Outcome.next.inj h
    split_ifs with hready
    · exact .portRead width off hready
    · exact .blocked _
  | portWrite width off w =>
    rw [hostMove_portWrite] at h
    split_ifs at h with hready
    · unfold portWrite at h
      split_ifs at h with hreg
      · obtain ⟨rfl, rfl⟩ := portReg_eq_cmd hreg
        exact moved_of_command hready h
      · obtain rfl := Host.Outcome.next.inj h
        exact .portWrite width off w hready hreg
    · obtain rfl := Host.Outcome.next.inj h
      exact .blocked _
  | cbDone =>
    obtain rfl := Host.Outcome.next.inj h
    split_ifs with hcbw
    · exact .cbDone hcbw.1
    · exact .blocked _
  | memStore a v =>
    obtain rfl := Host.Outcome.next.inj h
    exact .memStore a v

theorem moved_seqMove (s : State) : Moved s .seq (seqMove s) := by
  by_cases hwait : s.clken = false ∨ s.cbw = true
  · rw [seqMove_waiting hwait]
    exact .blocked _
  · rw [not_or, Bool.not_eq_false, Bool.not_eq_true] at hwait
    rw [seqMove_running hwait.1 hwait.2]
    split
    next => exact .blocked _
    next hmode => exact .blocking hwait.2 hmode
    next hmode => exact .dispatcher hwait.2 (.inl hmode)
    next hmode => exact .dispatcher hwait.2 (.inr hmode)

theorem moved_of_pulseMove {s t : State} {l : IrqLine} (h : pulseMove l s = .next t) : Moved s (.pulse l) t := by
  unfold pulseMove at h
  split_ifs at h with hmode
  · rcases exec_eq_next h with ⟨hlegal, rfl⟩ | ⟨hillegal, rfl⟩ <;> cases l
    · exact .entered .ev hmode hlegal.2
    · exact .entered .er hmode hlegal.2
    · exact .illegalPulse .ev (Bool.eq_false_iff.mpr fun hclk => hillegal ⟨hmode, hclk⟩)
    · exact .illegalPulse .er (Bool.eq_false_iff.mpr fun hclk => hillegal ⟨hmode, hclk⟩)
  · obtain rfl := Host.Outcome.next.inj h
    exact .blocked _

/-- What one move can do, said once: every invariant of the machine is proved from `Moved`. -/
theorem moved_of_perform {m : Move} {s t : State} (h : perform m s = .next t) : Moved s m t := by
  cases m with
  | host a => exact moved_of_hostMove h
  | seq => exact Host.Outcome.next.inj h ▸ moved_seqMove s
  | wire e =>
    obtain rfl := Host.Outcome.next.inj h
    by_cases hen : wireEnabled e s
    · rw [wireMove_enabled hen]
      exact .wire e hen
    · rw [wireMove_disabled hen]
      exact .blocked _
  | pulse l => exact moved_of_pulseMove h
  | reset => exact Host.Outcome.next.inj h ▸ .reset

/-- A step is the next move, taken from the schedule. -/
theorem moved_of_step {s t : State} (h : step s = .next t) :
    ∃ (l : List Move) (n : Nat), Moved { s with schedule := l, tick := n } (nextMove s) t :=
  ⟨_, _, takeMove_frame s ▸ moved_of_perform h⟩

theorem moved_of_runs {m : Move} {s t : State} (h : Runs m s t) : Moved s m t :=
  moved_of_perform h

/-! ### Every move has a next state -/

theorem exec_isNext (i : Instr) (s : State) : ∃ t : State, exec i s = .next t := by
  rcases exec_cases i s with ⟨-, t, h, -⟩ | ⟨-, h⟩ <;> exact ⟨_, h⟩

theorem command_isNext (w : Word) (s : State) : ∃ t : State, command w s = .next t := by
  cases hdecode : decode w with
  | ok i => rw [command_ok hdecode]; exact exec_isNext i _
  | error e => exact ⟨_, command_error hdecode s⟩

theorem portWrite_isNext (r : Reg) (w : Word) (s : State) : ∃ t : State, portWrite r w s = .next t := by
  unfold portWrite
  split
  · exact command_isNext w s
  · exact ⟨_, rfl⟩

theorem perform_isNext (m : Move) (s : State) : ∃ t : State, perform m s = .next t := by
  cases m with
  | seq | wire | reset => exact ⟨_, rfl⟩
  | pulse l =>
    by_cases h : s.seqMode = .idle
    · simp only [perform, pulseMove, if_pos h]; exact exec_isNext _ s
    · simp only [perform, pulseMove, if_neg h]; exact ⟨_, rfl⟩
  | host a =>
    cases a with
    | portRead | cbDone | memStore => exact ⟨_, rfl⟩
    | portWrite width off w =>
      by_cases h : s.hostReady
      · simp only [perform, hostMove_portWrite, if_pos h]; exact portWrite_isNext _ w s
      · exact ⟨s, (perform_host_blocked h width off w).2⟩

/-- Settles O8: every move has a next state (`perform_isNext`). -/
theorem everyStepAnswersANextState : Obligations.EveryStepAnswersANextState :=
  fun s => perform_isNext (nextMove s) (takeMove s)

end Sys2Proof.Machine

/-! The frames: each lemma `…_frame` lists everything that an operation, a step or an event may change, as fields of
its result `t`. -/

namespace Sys2Proof.Machine

theorem regReadEffect_frame {r : Reg} {s t : State} (h : regReadEffect r s = t) : t = { s with
    dr := t.dr, addr := t.addr, btf := t.btf, stopf := t.stopf, rxne := t.rxne, txe := t.txe, shRx := t.shRx,
    addrRd := t.addrRd, trace := t.trace } := by
  subst h
  cases r with
  | dr => simp only [regReadEffect]; rw [drRead_eq]
  | sr2 => simp only [regReadEffect, sr2ReadEffect]; split <;> rfl
  | ctrl | ien | oar | cfg | sr1 | sesRole | sesCursor | sesRemain | sesTarget | opBuf | opLen | cmd | result
  | clken | reserved => rfl

theorem regRead_frame {r : Reg} {s t : State} (h : regRead r s = t) : t = { s with
    dr := t.dr, addr := t.addr, btf := t.btf, stopf := t.stopf, rxne := t.rxne, txe := t.txe, shRx := t.shRx,
    addrRd := t.addrRd, rdata := t.rdata, trace := t.trace } := by
  subst h
  simp only [regRead]
  rw [regReadEffect_frame (r := r) (s := s) rfl]

theorem regWriteEffect_frame {r : Reg} {w : Word} {s t : State} (h : regWriteEffect r w s = t) : t = { s with
    fs := t.fs, duty := t.duty, own := t.own, pe := t.pe, start := t.start, stop := t.stop, ack := t.ack,
    clken := t.clken, iterren := t.iterren, itevten := t.itevten, itbufen := t.itbufen, dr := t.dr, sb := t.sb,
    btf := t.btf, txe := t.txe, berr := t.berr, arlo := t.arlo, af := t.af, ovr := t.ovr, timeout := t.timeout,
    shift := t.shift, shTx := t.shTx, shRx := t.shRx, phase := t.phase, opBuf := t.opBuf, opLen := t.opLen,
    trace := t.trace } := by
  subst h
  cases r with
  | dr => simp only [regWriteEffect]; rw [drWrite_frame]
  | ctrl => simp only [regWriteEffect]; rw [writeCtrl_eq]
  | oar | cfg => simp only [regWriteEffect]; split <;> rfl
  | clken => simp only [regWriteEffect, writeClken]; split_ifs <;> rfl
  | ien | sr1 | sr2 | sesRole | sesCursor | sesRemain | sesTarget | opBuf | opLen | cmd | result | reserved => rfl

theorem regWrite_frame {r : Reg} {w : Word} {s t : State} (h : regWrite r w s = t) : t = { s with
    fs := t.fs, duty := t.duty, own := t.own, pe := t.pe, start := t.start, stop := t.stop, ack := t.ack,
    clken := t.clken, iterren := t.iterren, itevten := t.itevten, itbufen := t.itbufen, dr := t.dr, sb := t.sb,
    btf := t.btf, txe := t.txe, berr := t.berr, arlo := t.arlo, af := t.af, ovr := t.ovr, timeout := t.timeout,
    shift := t.shift, shTx := t.shTx, shRx := t.shRx, phase := t.phase, opBuf := t.opBuf, opLen := t.opLen,
    trace := t.trace } := by
  unfold regWrite at h
  split_ifs at h
  · exact regWriteEffect_frame h
  · subst h; rfl

theorem acceptBlocking_frame {tr : Transfer} {op : BlockOp} {first : BStep} {a : Addr7} {rs : Bool} {s t : State}
    (h : acceptBlocking tr op first a rs s = t) : t = { s with
    wCur := t.wCur, wLen := t.wLen, wAddr := t.wAddr, wRs := t.wRs, bop := t.bop, bpc := t.bpc,
    seqMode := t.seqMode, resVal := t.resVal, resSt := t.resSt, trace := t.trace } := by
  subst h
  unfold acceptBlocking
  dsimp only
  split <;> rfl

theorem legalEffect_frame {i : Instr} {s t : State} (h : legalEffect i s = t) : t = { s with
    role := t.role, cursor := t.cursor, remain := t.remain, taddr := t.taddr, rs := t.rs, fs := t.fs,
    duty := t.duty, own := t.own, pe := t.pe, start := t.start, stop := t.stop, ack := t.ack, clken := t.clken,
    iterren := t.iterren, itevten := t.itevten, itbufen := t.itbufen, dr := t.dr, sb := t.sb, addr := t.addr,
    btf := t.btf, stopf := t.stopf, rxne := t.rxne, txe := t.txe, shift := t.shift, shTx := t.shTx,
    shRx := t.shRx, phase := t.phase, addrRd := t.addrRd, seqMode := t.seqMode, bop := t.bop, bpc := t.bpc,
    dpc := t.dpc, wCur := t.wCur, wLen := t.wLen, wAddr := t.wAddr, wRs := t.wRs, cbEn := t.cbEn,
    resVal := t.resVal, resSt := t.resSt, trace := t.trace } := by
  subst h
  cases i with
  | pAddrW | pAddrR | pWriteUnit | ssend =>
    simp only [legalEffect, addrWOp, addrROp, writeUnitOp]
    rw [drWrite_frame]
    rfl
  | pReadUnit | srecv => simp only [legalEffect, readUnitOp, drRead_eq]; rfl
  | pClearAddr => simp only [legalEffect, clearAddrOp_eq]; rfl
  | msend | mrecv => simp only [legalEffect]; rw [acceptBlocking_frame rfl]
  | msendA | mrecvA => simp only [legalEffect, arming]; split <;> rfl
  | pClkEn | pClkDis | pPeEn | pPeDis | pAckEn | pAckDis | pStartReq | pStopReq | pClearStopf | init | setCb
  | evdisp | erdisp => rfl

theorem blockingStep_frame {s t : State} (h : blockingStep s = t) : t = { s with
    start := t.start, stop := t.stop, ack := t.ack, dr := t.dr, sb := t.sb, addr := t.addr, btf := t.btf,
    rxne := t.rxne, txe := t.txe, shift := t.shift, shTx := t.shTx, shRx := t.shRx, phase := t.phase,
    addrRd := t.addrRd, seqMode := t.seqMode, bpc := t.bpc, wCur := t.wCur, wLen := t.wLen, wFailed := t.wFailed,
    resVal := t.resVal, resSt := t.resSt, trace := t.trace, mem := t.mem } := by
  unfold blockingStep at h
  cases hpos : s.bpc <;> simp only [hpos] at h
  case t2 | v3 => simp only [addrWOp, addrROp] at h; rw [drWrite_frame] at h; subst h; rfl
  case t6 => simp only [sendUnit] at h; rw [drWrite_frame] at h; subst h; rfl
  case t4 | v6 | v10 => rw [clearAddrOp_eq] at h; subst h; rfl
  case t8 | v7 | v12b => rw [stopUnless_eq] at h; subst h; rfl
  case v9 | v13 => simp only [recvUnit] at h; rw [memWrite_drRead_eq] at h; subst h; rfl
  case t0 | v0 | v1 | v5 => subst h; rfl
  all_goals split_ifs at h <;> (subst h; rfl)

theorem dispatcherStep_frame {s t : State} (h : dispatcherStep s = t) : t = { s with
    role := t.role, cursor := t.cursor, remain := t.remain, taddr := t.taddr, rs := t.rs, stop := t.stop,
    ack := t.ack, itevten := t.itevten, itbufen := t.itbufen, dr := t.dr, sb := t.sb, addr := t.addr,
    btf := t.btf, stopf := t.stopf, rxne := t.rxne, txe := t.txe, berr := t.berr, arlo := t.arlo, af := t.af,
    ovr := t.ovr, timeout := t.timeout, shift := t.shift, shTx := t.shTx, shRx := t.shRx, phase := t.phase,
    addrRd := t.addrRd, seqMode := t.seqMode, cbw := t.cbw, dpc := t.dpc, resVal := t.resVal, resSt := t.resSt,
    trace := t.trace, cbValid := t.cbValid, cbCode := t.cbCode, mem := t.mem } := by
  unfold dispatcherStep at h
  cases hpos : s.dpc <;> simp only [hpos] at h
  case err f sub =>
    cases sub <;> dsimp only at h
    case check => subst h; rfl
    case clear => cases f <;> (subst h; rfl)
    case call => rw [callback_eq] at h; subst h; rfl
  case e0a =>
    cases hrole : s.role <;> simp only [addressPhase, hrole, addrWOp, addrROp] at h
    case ready => subst h; rfl
    all_goals rw [drWrite_frame] at h; subst h; rfl
  case e1a => rw [clearAddrOp_eq] at h; subst h; rfl
  case e2s1 | e4s3 => rw [stopUnless_eq] at h; subst h; rfl
  case e2s3 | e3s2 | e4s5 | e4slave | e5slave => rw [callback_eq] at h; subst h; rfl
  case e4s1 => split_ifs at h <;> (subst h; rfl)
  case e4s2 => simp only [storeUnit] at h; rw [memWrite_drRead_eq] at h; subst h; rfl
  case e5master => simp only [loadUnit] at h; rw [drWrite_frame] at h; subst h; rfl
  all_goals subst h; rfl

/-- The state after a received unit is kept and answered, before a request of the master is served (R172). -/
def received (b : Byte) (s : State) : State :=
  rxAnswer s.answer (rxPlace b (s.log (.wire (.rxByte b s.answer))))

theorem received_eq {b : Byte} {s : State} (hshRx : s.shRx = false) (hnacked : s.nacked = false) :
    received b s = { s with
      dr := if s.rxne then s.dr else b, rxne := true, shift := if s.rxne then b else s.shift, shRx := s.rxne,
      btf := s.rxne || s.btf, nacked := s.msl && !s.ack, phase := if !s.ack && !s.msl then .sEnd else s.phase,
      trace := s.trace ++ [.wire (.rxByte b (if s.ack then .ack else .nack))] } := by
  cases s with
  | mk _ _ _ _ _ _ _ _ _ _ _ ack _ _ _ _ _ _ _ _ _ rxne _ _ _ _ _ _ msl =>
    cases ack <;> cases rxne <;> cases msl <;>
      simp_all [received, rxAnswer, rxPlace, State.answer, State.log]

theorem received_frame {b : Byte} {s t : State} (h : received b s = t) : t = { s with
    dr := t.dr, btf := t.btf, rxne := t.rxne, shift := t.shift, shRx := t.shRx, phase := t.phase,
    nacked := t.nacked, trace := t.trace } := by
  unfold received rxAnswer rxPlace at h
  split at h <;> split_ifs at h <;> (subst h; rfl)

theorem wireRxByte_eq (b : Byte) (s : State) : wireRxByte b s =
    if s.msl = true ∧ s.stop = true then stopNow (received b s)
    else if s.msl = true ∧ s.start = true then restartNow (received b s) else received b s := by
  have hmsl := congrArg State.msl (received_frame (b := b) (s := s) rfl)
  have hstart := congrArg State.start (received_frame (b := b) (s := s) rfl)
  have hstop := congrArg State.stop (received_frame (b := b) (s := s) rfl)
  rw [← hmsl, ← hstart, ← hstop]
  rfl

theorem wireEffect_frame {e : WireEvent} {s t : State} (h : wireEffect e s = t) : t = { s with
    start := t.start, stop := t.stop, dr := t.dr, sb := t.sb, addr := t.addr, btf := t.btf, stopf := t.stopf,
    rxne := t.rxne, txe := t.txe, berr := t.berr, arlo := t.arlo, af := t.af, ovr := t.ovr, timeout := t.timeout,
    msl := t.msl, busy := t.busy, tra := t.tra, shift := t.shift, shTx := t.shTx, shRx := t.shRx,
    phase := t.phase, nacked := t.nacked, addrRd := t.addrRd, wFailed := t.wFailed, trace := t.trace } := by
  cases e with
  | start => subst h; rfl
  | stop =>
    simp only [wireEffect, wireStop, stopNow] at h
    split_ifs at h
    · rw [doStop_eq] at h; subst h; rfl
    · subst h; rfl
  | addrResult a =>
    cases a
    · subst h; rfl
    · simp only [wireEffect, wireAddrResult] at h
      split_ifs at h <;> (subst h; rfl)
  | txByte a =>
    cases a
    · subst h; rfl
    · simp only [wireEffect, wireTxByte, stopNow, doStop_eq] at h
      split_ifs at h <;> (subst h; rfl)
  | rxByte b =>
    have hrx := received_frame (b := b) (s := s) rfl
    rw [wireEffect, wireRxByte_eq] at h
    generalize received b s = u at h hrx
    split at h
    · rw [stopNow, doStop_eq] at h; subst h; rw [hrx]; rfl
    · split at h
      · subst h; rw [hrx]; rfl
      · rw [← h, hrx]
  | eAddress a7 rw =>
    simp only [wireEffect, wireEAddress] at h
    split_ifs at h <;> (subst h; rfl)
  | eStop | arlo => subst h; rfl
  | err f => cases f <;> (subst h; rfl)

end Sys2Proof.Machine

/-! The invariants of the flags (10_state.md R51 to R53, R56) are kept by every operation and every event. -/

namespace Sys2Proof.Machine

/-- The fields that `FlagInv` speaks of. -/
def State.flagView (s : State) :=
  (s.phase, s.msl, s.busy, s.sb, s.addr, s.btf, s.rxne, s.txe, s.tra, s.shTx, s.shRx, s.nacked, s.addrRd)

/-- `FlagInv` reads `flagView` alone. -/
theorem FlagInv.of_flagView_eq {s t : State} (hs : FlagInv s) (h : t.flagView = s.flagView) : FlagInv t := by
  simp only [State.flagView, Prod.mk.injEq] at h
  obtain ⟨hphase, hmsl, hbusy, hsb, haddr, hbtf, hrxne, htxe, htra, hshTx, hshRx, hnacked, haddrRd⟩ := h
  cases hs
  constructor <;>
    simpa only [hphase, hmsl, hbusy, hsb, haddr, hbtf, hrxne, htxe, htra, hshTx, hshRx, hnacked, haddrRd]

/-! ### The data register and the address flag -/

theorem FlagInv.drRead {s : State} (hs : FlagInv s) : FlagInv (drRead s) := by
  rw [drRead_eq]
  cases hs
  constructor <;> grind -ring -linarith -lia

/-- An address byte enters `M_ADDR` from `M_SB`, where `TRA` and with it `TXE` are clear. -/
theorem FlagInv.drWrite {s : State} (hs : FlagInv s) (v : Byte) : FlagInv (drWrite v s) := by
  cases hs
  unfold Machine.drWrite
  simp only [State.log]
  split_ifs <;> constructor <;> grind -ring -linarith -lia [Phase.isMaster, Phase.mayTransmit, Phase.mayShiftOut]

/-- `TXE` is set only where `ADDR` was set, so not in a transmitter that a NACK has halted. -/
theorem FlagInv.releaseAddr {s : State} (hs : FlagInv s) (haddr : s.addr = true) : FlagInv s.releaseAddr := by
  cases hs
  unfold State.releaseAddr
  constructor <;> grind -ring -linarith -lia

theorem FlagInv.clearAddrOp {s : State} (hs : FlagInv s) : FlagInv (clearAddrOp s) := by
  by_cases haddr : s.addr = true
  · refine (hs.releaseAddr haddr).of_flagView_eq ?_
    rw [clearAddrOp_eq]
    simp [State.flagView, State.releaseAddr, haddr]
  · refine hs.of_flagView_eq ?_
    rw [clearAddrOp_eq]
    simp [State.flagView, haddr]

theorem FlagInv.regRead {s : State} (hs : FlagInv s) (r : Reg) : FlagInv (regRead r s) := by
  have heffect : FlagInv (regReadEffect r s) := by
    cases r with
    | dr => exact hs.drRead
    | sr1 =>
      cases hs
      constructor <;> grind -ring -linarith -lia [regReadEffect, sr1ReadEffect]
    | sr2 =>
      simp only [regReadEffect, sr2ReadEffect]
      split
      next hrd => exact hs.releaseAddr (hs.addrRd hrd)
      next => exact hs
    | ctrl | ien | oar | cfg | sesRole | sesCursor | sesRemain | sesTarget | opBuf | opLen | cmd | result | clken
    | reserved => exact hs
  exact heffect.of_flagView_eq rfl

theorem FlagInv.regWrite {s : State} (hs : FlagInv s) (r : Reg) (w : Word) : FlagInv (regWrite r w s) := by
  have heffect : FlagInv (regWriteEffect r w s) := by
    cases r with
    | dr => exact hs.drWrite _
    | ctrl => exact hs.of_flagView_eq (by rw [regWriteEffect, writeCtrl_eq]; rfl)
    | oar | cfg => simp only [regWriteEffect]; split <;> exact hs.of_flagView_eq rfl
    | clken => simp only [regWriteEffect, writeClken]; split_ifs <;> exact hs.of_flagView_eq rfl
    | ien | sr1 | sr2 | sesRole | sesCursor | sesRemain | sesTarget | opBuf | opLen | cmd | result | reserved =>
      exact hs.of_flagView_eq rfl
  unfold Machine.regWrite
  split
  · exact heffect
  · exact hs

/-! ### Start and stop conditions -/

theorem FlagInv.doStart {s : State} (hs : FlagInv s) : FlagInv (doStart s) := by
  cases hs
  constructor <;> grind -ring -linarith -lia [Machine.doStart, Phase.isMaster, Phase.mayTransmit, Phase.mayShiftOut]

/-- At a stop a receiver has nothing in the shift register to send. -/
theorem FlagInv.doStop {s : State} (hs : FlagInv s) (htx : s.tra = true ∨ s.shTx = false) : FlagInv (doStop s) := by
  rw [doStop_eq]
  cases hs
  constructor <;> grind -ring -linarith -lia [Phase.isMaster, Phase.mayTransmit, Phase.mayShiftOut]

/-! ### Wire events -/

theorem tra_or_shTx_of_quiescent {s : State} (hs : FlagInv s) (hq : s.quiescent) : s.tra = true ∨ s.shTx = false := by
  cases hs
  grind -ring -linarith -lia [Phase.mayShiftOut]

/-- The answered address phase leaves `M_ADDR`, where only the address byte was in the shift register. -/
theorem FlagInv.wireAddrResult {s : State} (hs : FlagInv s) (hphase : s.phase = .mAddr) (a : Ack) :
    FlagInv (wireAddrResult a s) := by
  cases hs
  cases a <;> simp only [Machine.wireAddrResult, State.log]
  case ack =>
    split_ifs <;> constructor <;> grind -ring -linarith -lia [Phase.isMaster, Phase.mayTransmit, Phase.mayShiftOut]
  case nack => constructor <;> grind -ring -linarith -lia [Phase.isMaster, Phase.mayTransmit, Phase.mayShiftOut]

theorem FlagInv.stopNow {s : State} (hs : FlagInv s) (htx : s.tra = true ∨ s.shTx = false) : FlagInv (stopNow s) :=
  FlagInv.doStop (hs.of_flagView_eq rfl) htx

theorem FlagInv.restartNow {s : State} (hs : FlagInv s) : FlagInv (restartNow s) :=
  FlagInv.doStart (hs.of_flagView_eq rfl)

theorem FlagInv.wireTxByte {s : State} (hs : FlagInv s) (h : txByteGuard s) (a : Ack) :
    FlagInv (wireTxByte a s) := by
  obtain ⟨hphase, haddr, hshTx⟩ := h
  have htra := hs.traTx hphase
  have hlog : FlagInv (s.log (.wire (.txByte s.shift a))) := hs.of_flagView_eq rfl
  cases a with
  | nack =>
    cases hs
    simp only [Machine.wireTxByte, State.log]
    constructor <;> grind -ring -linarith -lia [Phase.isMaster, Phase.mayTransmit, Phase.mayShiftOut]
  | ack =>
    simp only [Machine.wireTxByte]
    split_ifs with hstop hstart htxe
    · exact hlog.stopNow (.inl htra)
    · exact hlog.restartNow
    · have hfull : s.txe = true := htxe
      cases hs
      simp only [State.log]
      constructor <;> grind -ring -linarith -lia
    · have hempty : ¬ s.txe = true := htxe
      cases hs
      simp only [State.log]
      constructor <;> grind -ring -linarith -lia

theorem FlagInv.received {s : State} (hs : FlagInv s) (h : rxByteGuard s) (b : Byte) : FlagInv (received b s) := by
  obtain ⟨hphase, haddr, hshRx, hnacked⟩ := h
  rw [received_eq hshRx hnacked]
  cases hs
  constructor <;> grind -ring -linarith -lia [Phase.isMaster, Phase.mayTransmit, Phase.mayShiftOut]

theorem FlagInv.wireRxByte {s : State} (hs : FlagInv s) (h : rxByteGuard s) (b : Byte) :
    FlagInv (wireRxByte b s) := by
  have hrx := hs.received h b
  have hshTx : (Machine.received b s).shTx = false := by
    rw [received_frame (b := b) (s := s) rfl]
    obtain ⟨hphase, -⟩ := h
    cases hs
    grind -ring -linarith -lia [Phase.mayShiftOut]
  rw [wireRxByte_eq]
  split_ifs
  · exact hrx.stopNow (.inr hshTx)
  · exact hrx.restartNow
  · exact hrx

theorem FlagInv.wireEAddress {s : State} (hs : FlagInv s) (h : eAddressGuard s) (a7 : Addr7) (rw : Bool) :
    FlagInv (wireEAddress a7 rw s) := by
  obtain ⟨hmsl, hphase⟩ := h
  cases hs
  simp only [Machine.wireEAddress, State.log]
  split_ifs <;> constructor <;> grind -ring -linarith -lia [Phase.isMaster, Phase.mayTransmit, Phase.mayShiftOut]

theorem FlagInv.wireEStop {s : State} (hs : FlagInv s) (h : eStopGuard s) : FlagInv (wireEStop s) := by
  obtain ⟨hmsl, hphase⟩ := h
  cases hs
  simp only [Machine.wireEStop, State.log]
  constructor <;> grind -ring -linarith -lia [Phase.isMaster, Phase.mayTransmit, Phase.mayShiftOut]

theorem FlagInv.wireArlo {s : State} (hs : FlagInv s) (h : arloGuard s) : FlagInv (wireArlo s) := by
  obtain ⟨hmsl, hphase⟩ := h
  cases hs
  simp only [Machine.wireArlo, State.log]
  constructor <;> grind -ring -linarith -lia [Phase.isMaster, Phase.mayTransmit, Phase.mayShiftOut]

theorem FlagInv.wireEffect {s : State} (hs : FlagInv s) {e : WireEvent} (h : wireGuard e s = true) :
    FlagInv (wireEffect e s) := by
  cases e with
  | start => exact FlagInv.doStart (hs.of_flagView_eq rfl)
  | stop =>
    obtain ⟨-, h⟩ : stopGuard s := of_decide_eq_true h
    simp only [Machine.wireEffect, wireStop]
    split_ifs with hmsl
    · have hq : s.quiescent := by simpa [hmsl] using h
      exact hs.stopNow (tra_or_shTx_of_quiescent hs hq)
    · exact hs.of_flagView_eq rfl
  | addrResult a => exact hs.wireAddrResult (of_decide_eq_true h) a
  | txByte a => exact hs.wireTxByte (of_decide_eq_true h) a
  | rxByte b => exact hs.wireRxByte (of_decide_eq_true h) b
  | eAddress a7 rw => exact hs.wireEAddress (of_decide_eq_true h) a7 rw
  | eStop => exact hs.wireEStop (of_decide_eq_true h)
  | arlo => exact hs.wireArlo (of_decide_eq_true h)
  | err f => cases f <;> exact hs.of_flagView_eq rfl

/-! ### Operations and steps -/

theorem FlagInv.legalEffect {s : State} (hs : FlagInv s) (i : Instr) : FlagInv (legalEffect i s) := by
  cases i with
  | pAddrW | pAddrR | pWriteUnit | ssend =>
    exact (FlagInv.drWrite (s := s.log _) (hs.of_flagView_eq rfl) _).of_flagView_eq rfl
  | pReadUnit | srecv => exact (FlagInv.drRead (s := s.log _) (hs.of_flagView_eq rfl)).of_flagView_eq rfl
  | pClearAddr => exact hs.clearAddrOp.of_flagView_eq rfl
  | msend | mrecv => exact hs.of_flagView_eq (by rw [Machine.legalEffect, acceptBlocking_frame rfl]; rfl)
  | msendA | mrecvA => simp only [Machine.legalEffect, arming]; split <;> exact hs.of_flagView_eq rfl
  | pClkEn | pClkDis | pPeEn | pPeDis | pAckEn | pAckDis | pStartReq | pStopReq | pClearStopf | init | setCb
  | evdisp | erdisp => exact hs.of_flagView_eq rfl

theorem FlagInv.addrWOp {s : State} (hs : FlagInv s) (a : Addr7) : FlagInv (addrWOp a s) :=
  FlagInv.drWrite (s := s.log (.prim (.addrW a))) (hs.of_flagView_eq rfl) _

theorem FlagInv.addrROp {s : State} (hs : FlagInv s) (a : Addr7) : FlagInv (addrROp a s) :=
  FlagInv.drWrite (s := s.log (.prim (.addrR a))) (hs.of_flagView_eq rfl) _

theorem FlagInv.sendUnit {s : State} (hs : FlagInv s) : FlagInv (sendUnit s) :=
  (FlagInv.drWrite (s := memRead s.wCur s) (hs.of_flagView_eq rfl) (s.memAt s.wCur)).of_flagView_eq rfl

theorem FlagInv.loadUnit {s : State} (hs : FlagInv s) : FlagInv (loadUnit s) :=
  (FlagInv.drWrite (s := memRead s.cursor s) (hs.of_flagView_eq rfl) (s.memAt s.cursor)).of_flagView_eq rfl

theorem FlagInv.recvUnit {s : State} (hs : FlagInv s) (len : Word) : FlagInv (recvUnit len s) :=
  hs.drRead.of_flagView_eq (by rw [Machine.recvUnit, memWrite_drRead_eq, drRead_eq]; rfl)

theorem FlagInv.storeUnit {s : State} (hs : FlagInv s) : FlagInv (storeUnit s) :=
  hs.drRead.of_flagView_eq (by rw [Machine.storeUnit, memWrite_drRead_eq, drRead_eq]; rfl)

theorem FlagInv.stopUnless {s : State} (hs : FlagInv s) (rs : Bool) : FlagInv (stopUnless rs s) :=
  hs.of_flagView_eq (by rw [stopUnless_eq]; rfl)

theorem FlagInv.callback {s : State} (hs : FlagInv s) (e : Event) (next : DStep) : FlagInv (callback e next s) :=
  hs.of_flagView_eq (by rw [callback_eq]; rfl)

theorem FlagInv.finishBlocking {s : State} (hs : FlagInv s) : FlagInv (finishBlocking s) :=
  hs.of_flagView_eq rfl

theorem FlagInv.setBpc {s : State} (hs : FlagInv s) (b : BStep) : FlagInv { s with bpc := b } :=
  hs.of_flagView_eq rfl

theorem FlagInv.setDpc {s : State} (hs : FlagInv s) (d : DStep) : FlagInv { s with dpc := d } :=
  hs.of_flagView_eq rfl

theorem FlagInv.blockingStep {s : State} (hs : FlagInv s) : FlagInv (blockingStep s) := by
  unfold Machine.blockingStep
  cases hpos : s.bpc <;> simp only
  case t2 => exact (hs.addrWOp s.wAddr).of_flagView_eq rfl
  case v3 => exact (hs.addrROp s.wAddr).of_flagView_eq rfl
  case t4 | v6 | v10 => exact hs.clearAddrOp.setBpc _
  case t6 => exact hs.sendUnit.setBpc _
  case t8 => exact (hs.stopUnless s.wRs).finishBlocking
  case v7 | v12b => exact (hs.stopUnless s.wRs).setBpc _
  case v9 => exact (hs.recvUnit 0).finishBlocking
  case v13 => exact (hs.recvUnit _).setBpc _
  case t0 | v0 | v1 | v5 => exact hs.of_flagView_eq rfl
  all_goals split_ifs <;> exact hs.of_flagView_eq rfl

theorem FlagInv.dispatcherStep {s : State} (hs : FlagInv s) : FlagInv (dispatcherStep s) := by
  unfold Machine.dispatcherStep
  cases hpos : s.dpc <;> simp only
  case err f sub =>
    cases sub <;> simp only
    case check => exact hs.of_flagView_eq rfl
    case clear => cases f <;> exact hs.of_flagView_eq rfl
    case call => exact hs.callback _ _
  case e0a =>
    cases hrole : s.role <;> simp only [addressPhase, hrole]
    case ready => exact hs.of_flagView_eq rfl
    case busyRx => exact (hs.addrROp s.taddr).of_flagView_eq rfl
    case busyTx => exact (hs.addrWOp s.taddr).of_flagView_eq rfl
  case e1a => exact hs.clearAddrOp.setDpc _
  case e2s1 | e4s3 => exact (hs.stopUnless s.rs).setDpc _
  case e2s3 | e3s2 | e4s5 | e4slave | e5slave => exact hs.callback _ _
  case e4s1 => split_ifs <;> exact hs.of_flagView_eq rfl
  case e4s2 => exact hs.storeUnit.setDpc _
  case e5master => exact hs.loadUnit.setDpc _
  all_goals exact hs.of_flagView_eq rfl

theorem flagInv_reset : FlagInv State.reset := by constructor <;> decide

theorem FlagInv.moved {s t : State} {m : Move} (hs : FlagInv s) (h : Moved s m t) : FlagInv t := by
  cases h with
  | blocked => exact hs
  | portRead width off => exact hs.regRead _
  | portWrite width off w => exact hs.regWrite _ w
  | operation w i => exact FlagInv.legalEffect (s := { s with cmd := w }) (hs.of_flagView_eq rfl) i
  | blocking => exact hs.blockingStep
  | dispatcher => exact hs.dispatcherStep
  | wire e hen => exact hs.wireEffect hen.2.2
  | reset => exact flagInv_reset.of_flagView_eq rfl
  | illegalWord | cbDone | memStore | entered | illegalPulse => exact hs.of_flagView_eq rfl

theorem FlagInv.step {s t : State} (hs : FlagInv s) (h : step s = .next t) : FlagInv t := by
  obtain ⟨l, n, hmoved⟩ := moved_of_step h
  have hs' : FlagInv { s with schedule := l, tick := n } := hs.of_flagView_eq rfl
  exact hs'.moved hmoved

end Sys2Proof.Machine

/-! What single steps do to single fields. -/

namespace Sys2Proof.Machine

/-- The fields that `DR_WRITE` never changes. -/
@[simp] theorem drWrite_keeps (v : Byte) (s : State) :
    (drWrite v s).role = s.role ∧ (drWrite v s).cursor = s.cursor ∧ (drWrite v s).remain = s.remain ∧
    (drWrite v s).taddr = s.taddr ∧ (drWrite v s).rs = s.rs ∧ (drWrite v s).fs = s.fs ∧
    (drWrite v s).duty = s.duty ∧ (drWrite v s).own = s.own ∧ (drWrite v s).pe = s.pe ∧
    (drWrite v s).start = s.start ∧ (drWrite v s).stop = s.stop ∧ (drWrite v s).ack = s.ack ∧
    (drWrite v s).clken = s.clken ∧ (drWrite v s).iterren = s.iterren ∧ (drWrite v s).itevten = s.itevten ∧
    (drWrite v s).itbufen = s.itbufen ∧ (drWrite v s).addr = s.addr ∧ (drWrite v s).stopf = s.stopf ∧
    (drWrite v s).rxne = s.rxne ∧ (drWrite v s).berr = s.berr ∧ (drWrite v s).arlo = s.arlo ∧
    (drWrite v s).af = s.af ∧ (drWrite v s).ovr = s.ovr ∧ (drWrite v s).timeout = s.timeout ∧
    (drWrite v s).msl = s.msl ∧ (drWrite v s).busy = s.busy ∧ (drWrite v s).tra = s.tra ∧
    (drWrite v s).nacked = s.nacked ∧ (drWrite v s).addrRd = s.addrRd ∧ (drWrite v s).seqMode = s.seqMode ∧
    (drWrite v s).cbw = s.cbw ∧ (drWrite v s).bop = s.bop ∧ (drWrite v s).bpc = s.bpc ∧
    (drWrite v s).dpc = s.dpc ∧ (drWrite v s).wCur = s.wCur ∧ (drWrite v s).wLen = s.wLen ∧
    (drWrite v s).wAddr = s.wAddr ∧ (drWrite v s).wRs = s.wRs ∧ (drWrite v s).wFailed = s.wFailed ∧
    (drWrite v s).cbEn = s.cbEn ∧ (drWrite v s).opBuf = s.opBuf ∧ (drWrite v s).opLen = s.opLen ∧
    (drWrite v s).cmd = s.cmd ∧ (drWrite v s).resVal = s.resVal ∧ (drWrite v s).resSt = s.resSt ∧
    (drWrite v s).rdata = s.rdata ∧ (drWrite v s).cbValid = s.cbValid ∧ (drWrite v s).cbCode = s.cbCode ∧
    (drWrite v s).mem = s.mem ∧ (drWrite v s).schedule = s.schedule ∧ (drWrite v s).tick = s.tick := by
  rw [drWrite_frame]
  simp only [and_self]

/-- The fields that a received unit never changes, before the requests are served. -/
@[simp] theorem received_keeps (b : Byte) (s : State) :
    (received b s).start = s.start ∧ (received b s).stop = s.stop ∧ (received b s).sb = s.sb ∧
    (received b s).addr = s.addr ∧ (received b s).stopf = s.stopf ∧ (received b s).txe = s.txe ∧
    (received b s).berr = s.berr ∧ (received b s).arlo = s.arlo ∧ (received b s).af = s.af ∧
    (received b s).ovr = s.ovr ∧ (received b s).timeout = s.timeout ∧ (received b s).msl = s.msl ∧
    (received b s).busy = s.busy ∧ (received b s).tra = s.tra ∧ (received b s).shTx = s.shTx ∧
    (received b s).addrRd = s.addrRd ∧ (received b s).wFailed = s.wFailed := by
  rw [received_frame (b := b) (s := s) rfl]
  simp only [and_self]

/-- The fields that the action of E0 never changes. -/
@[simp] theorem addressPhase_keeps (s : State) :
    (addressPhase s).role = s.role ∧ (addressPhase s).cursor = s.cursor ∧ (addressPhase s).remain = s.remain ∧
    (addressPhase s).taddr = s.taddr ∧ (addressPhase s).rs = s.rs ∧ (addressPhase s).stop = s.stop ∧
    (addressPhase s).ack = s.ack ∧ (addressPhase s).stopf = s.stopf ∧ (addressPhase s).berr = s.berr ∧
    (addressPhase s).arlo = s.arlo ∧ (addressPhase s).af = s.af ∧ (addressPhase s).ovr = s.ovr ∧
    (addressPhase s).timeout = s.timeout ∧ (addressPhase s).seqMode = s.seqMode ∧ (addressPhase s).cbw = s.cbw ∧
    (addressPhase s).cbValid = s.cbValid ∧ (addressPhase s).mem = s.mem := by
  cases hrole : s.role <;> simp [addressPhase, hrole, addrWOp, addrROp]

/-- The fields other than the error flags that a change of one error flag leaves. -/
@[simp] theorem ErrFlag.put_keeps (f : ErrFlag) (v : Bool) (s : State) :
    (f.put v s).role = s.role ∧ (f.put v s).cursor = s.cursor ∧ (f.put v s).remain = s.remain ∧
    (f.put v s).taddr = s.taddr ∧ (f.put v s).rs = s.rs ∧ (f.put v s).stop = s.stop ∧
    (f.put v s).ack = s.ack ∧ (f.put v s).sb = s.sb ∧ (f.put v s).addr = s.addr ∧ (f.put v s).btf = s.btf ∧
    (f.put v s).stopf = s.stopf ∧ (f.put v s).rxne = s.rxne ∧ (f.put v s).txe = s.txe ∧
    (f.put v s).seqMode = s.seqMode ∧ (f.put v s).cbw = s.cbw ∧ (f.put v s).cbValid = s.cbValid ∧
    (f.put v s).mem = s.mem ∧ (f.put v s).trace = s.trace := by
  cases f <;> simp [ErrFlag.put]

theorem ite_ackDisOp_eq (p : Prop) [Decidable p] (s : State) : (if p then ackDisOp s else s) = { s with
    ack := if p then false else s.ack, trace := s.trace ++ if p then [.prim .ackDis] else [] } := by
  split <;> simp [ackDisOp, State.log]

end Sys2Proof.Machine

/-! The families of 40, 42, 43, 44 and 45: what each operation does where it is legal, written out. -/

namespace Sys2Proof.Machine

@[simp] theorem legalEffect_pClkEn (s : State) : legalEffect .pClkEn s =
    { s with clken := true, resVal := 0, resSt := 0, trace := s.trace ++ [.prim .clkEn] } := rfl

@[simp] theorem legalEffect_pClkDis (s : State) : legalEffect .pClkDis s =
    { s with clken := false, resVal := 0, resSt := 0, trace := s.trace ++ [.prim .clkDis] } := rfl

@[simp] theorem legalEffect_pPeEn (s : State) : legalEffect .pPeEn s =
    { s with pe := true, resVal := 0, resSt := 0, trace := s.trace ++ [.prim .peEn] } := rfl

@[simp] theorem legalEffect_pPeDis (s : State) : legalEffect .pPeDis s = { s with
    pe := false, start := false, stop := false, resVal := 0, resSt := 0,
    trace := s.trace ++ [.prim .peDis] } := rfl

@[simp] theorem legalEffect_pAckEn (s : State) : legalEffect .pAckEn s =
    { s with ack := true, resVal := 0, resSt := 0, trace := s.trace ++ [.prim .ackEn] } := rfl

@[simp] theorem legalEffect_pAckDis (s : State) : legalEffect .pAckDis s =
    { s with ack := false, resVal := 0, resSt := 0, trace := s.trace ++ [.prim .ackDis] } := rfl

@[simp] theorem legalEffect_pStartReq (s : State) : legalEffect .pStartReq s =
    { s with start := true, resVal := 0, resSt := 0, trace := s.trace ++ [.prim .startReq] } := rfl

@[simp] theorem legalEffect_pStopReq (s : State) : legalEffect .pStopReq s =
    { s with stop := true, resVal := 0, resSt := 0, trace := s.trace ++ [.prim .stopReq] } := rfl

@[simp] theorem legalEffect_pAddrW (a : Addr7) (s : State) : legalEffect (.pAddrW a) s =
    { drWrite (addrByte a false) { s with trace := s.trace ++ [.prim (.addrW a)] } with
      resVal := 0, resSt := 0 } := rfl

@[simp] theorem legalEffect_pAddrR (a : Addr7) (s : State) : legalEffect (.pAddrR a) s =
    { drWrite (addrByte a true) { s with trace := s.trace ++ [.prim (.addrR a)] } with
      resVal := 0, resSt := 0 } := rfl

@[simp] theorem legalEffect_pReadUnit (s : State) : legalEffect .pReadUnit s = { s with
    dr := if s.shRx then s.shift else s.dr, shRx := false, btf := if s.shRx then false else s.btf,
    rxne := if s.shRx then s.rxne else false, resVal := s.dr, resSt := 0,
    trace := s.trace ++ [.prim .readUnit, .drr s.dr] } := by
  simp [legalEffect, readUnitOp, drRead_eq, State.log, State.setResult]

@[simp] theorem legalEffect_pWriteUnit (d : Byte) (s : State) : legalEffect (.pWriteUnit d) s =
    { drWrite d { s with trace := s.trace ++ [.prim (.writeUnit d)] } with resVal := 0, resSt := 0 } := rfl

@[simp] theorem legalEffect_pClearAddr (s : State) : legalEffect .pClearAddr s = { s with
    ack := if s.role = .busyRx ∧ s.remain = 1 then false else s.ack,
    addr := false, addrRd := if s.addr then false else s.addrRd,
    txe := if s.addr && s.tra then true else s.txe, resVal := 0, resSt := 0,
    trace := s.trace ++ (if s.role = .busyRx ∧ s.remain = 1 then [.prim .ackDis] else []) ++
      [.prim .clearAddr] } := by
  rw [legalEffect, clearAddrOp_eq]
  rfl

@[simp] theorem legalEffect_pClearStopf (s : State) : legalEffect .pClearStopf s =
    { s with stopf := false, resVal := 0, resSt := 0, trace := s.trace ++ [.prim .clearStopf] } := rfl

@[simp] theorem legalEffect_init (own : Addr7) (fs duty ackp : Bool) (s : State) :
    legalEffect (.init own fs duty ackp) s = { s with
      clken := true, fs := fs, duty := duty, own := own, ack := ackp, resVal := 0, resSt := 0,
      trace := s.trace ++ [.op (.init own fs duty ackp)] } := rfl

@[simp] theorem legalEffect_setCb (en : Bool) (s : State) : legalEffect (.setCb en) s =
    { s with cbEn := en, resVal := 0, resSt := 0, trace := s.trace ++ [.op (.setCb en)] } := rfl

@[simp] theorem legalEffect_srecv (s : State) : legalEffect .srecv s = { s with
    dr := if s.shRx then s.shift else s.dr, shRx := false, btf := if s.shRx then false else s.btf,
    rxne := if s.shRx then s.rxne else false, resVal := s.dr, resSt := 0,
    trace := s.trace ++ [.op .srecv, .drr s.dr] } := by
  simp [legalEffect, drRead_eq, State.log, State.setResult]

@[simp] theorem legalEffect_ssend (d : Byte) (s : State) : legalEffect (.ssend d) s =
    { drWrite d { s with trace := s.trace ++ [.op (.ssend d)] } with resVal := 0, resSt := 0 } := rfl

@[simp] theorem legalEffect_evdisp (s : State) : legalEffect .evdisp s =
    { s with seqMode := .ev, dpc := .e0, trace := s.trace ++ [.op .evdisp] } := rfl

@[simp] theorem legalEffect_erdisp (s : State) : legalEffect .erdisp s =
    { s with seqMode := .er, dpc := .err .berr .check, trace := s.trace ++ [.op .erdisp] } := rfl

theorem acceptBlocking_of_ready {s : State} (hready : s.role = .ready) (t : Transfer) (op : BlockOp) (first : BStep)
    (a : Addr7) (rs : Bool) : acceptBlocking t op first a rs s = { s with
      wCur := s.opBuf, wLen := s.opLen, wAddr := a, wRs := rs, bop := op, bpc := first, seqMode := .blk,
      trace := s.trace ++ [.op (.transfer t s.opBuf s.opLen a rs)] } := by
  simp [acceptBlocking, hready, State.log]

theorem acceptBlocking_of_busy {s : State} (hbusy : s.role ≠ .ready) (t : Transfer) (op : BlockOp) (first : BStep)
    (a : Addr7) (rs : Bool) : acceptBlocking t op first a rs s = { s with
      resVal := if s.role = .busyRx then 1 else 2, resSt := 0,
      trace := s.trace ++ [.op (.transfer t s.opBuf s.opLen a rs)] } := by
  cases hrole : s.role with
  | ready => exact absurd hrole hbusy
  | busyRx | busyTx => simp [acceptBlocking, hrole, Role.code, State.log, State.setResult]

/-! ### The exact effects of the operations -/

/-- Settles O10: the two equations, and P_CLK_DIS is not legal where the clock is off or the peripheral on. -/
theorem clockGateOperationsTakeEffect : Obligations.ClockGateOperationsTakeEffect := by
  refine ⟨rfl, rfl, fun s hready => ⟨exec_of_legal (i := .pClkEn) hready, fun hclk hpe => ?_, fun hbad => ?_⟩⟩
  · exact exec_of_legal (i := .pClkDis) ⟨hready, hclk, hpe⟩
  · refine exec_illegal (i := .pClkDis) fun ⟨_, hclk, hpe⟩ => ?_
    simp [hclk, hpe] at hbad

/-- Settles O11: the two equations, and P_PE_DIS is not legal in a transfer. -/
theorem peripheralEnableOperationsTakeEffect : Obligations.PeripheralEnableOperationsTakeEffect := by
  refine fun s hready hclk => ⟨exec_of_legal (i := .pPeEn) ⟨hready, hclk⟩, fun hphase hrole => ?_, fun hbad => ?_⟩
  · exact exec_of_legal (i := .pPeDis) ⟨hready, hclk, hphase, hrole⟩
  · refine exec_illegal (i := .pPeDis) fun ⟨_, _, hphase, hrole⟩ => ?_
    simp [hphase, hrole] at hbad

/-- Settles O12: each of the four is legal in either context with the clock on. -/
theorem ackPolicyAndBusRequestsTakeEffect : Obligations.AckPolicyAndBusRequestsTakeEffect :=
  fun _ hready hclk =>
    ⟨exec_of_legal (i := .pAckEn) ⟨hready, hclk⟩, exec_of_legal (i := .pAckDis) ⟨hready, hclk⟩,
      exec_of_legal (i := .pStartReq) ⟨hready, hclk⟩, exec_of_legal (i := .pStopReq) ⟨hready, hclk⟩⟩

/-! ### Port accesses -/

theorem runs_portRead {s : State} (hready : s.hostReady) (width : PortWidth) (off : Offset) :
    Runs (.host (.portRead width off)) s (regRead (portReg width off) s) := by
  rw [runs_iff, perform, hostMove, if_pos hready]

theorem runs_portWrite {s : State} (hready : s.hostReady) {width : PortWidth} {off : Offset}
    (hreg : portReg width off ≠ .cmd) (w : Word) :
    Runs (.host (.portWrite width off w)) s (regWrite (portReg width off) w s) := by
  rw [runs_iff, perform, hostMove_portWrite, if_pos hready, portWrite, if_neg hreg]

theorem regWrite_clocked {s : State} (hclk : s.clken = true) (r : Reg) (w : Word) :
    regWrite r w s = regWriteEffect r w s :=
  if_pos (.inl hclk)

/-- A port write with the clock on (20_memory.md R74). -/
theorem runs_portWrite_clocked {s : State} (hready : s.hostReady) (hclk : s.clken = true) {off : Offset}
    (hreg : regAt off ≠ .cmd) (w : Word) :
    Runs (.host (.portWrite .word off w)) s (regWriteEffect (regAt off) w s) :=
  regWrite_clocked hclk (regAt off) w ▸ runs_portWrite hready (width := .word) hreg w

/-! ### The data register -/

/-- Settles O13: each operation is legal in either context with the clock on; the port write stores bits 7:0. -/
theorem dataRegisterWriteOperationsTakeEffect : Obligations.DataRegisterWriteOperationsTakeEffect := by
  refine fun s hready hclk => ⟨fun a => ?_, fun a => ?_, fun d => ?_, fun d => ?_, fun w => ?_⟩
  · exact exec_of_legal (i := .pAddrW a) ⟨hready, hclk⟩
  · exact exec_of_legal (i := .pAddrR a) ⟨hready, hclk⟩
  · exact exec_of_legal (i := .pWriteUnit d) ⟨hready, hclk⟩
  · exact exec_of_legal (i := .ssend d) ⟨hready, hclk⟩
  · rw [← BitVec.setWidth_eq_extractLsb' (by decide)]
    exact runs_portWrite_clocked hready hclk (off := 0x10) (by decide) w

theorem drWrite_of_sb {s : State} (h : s.sb = true) (v : Byte) : drWrite v s = { s with
    dr := v, sb := false, shift := v, shTx := true, shRx := false, btf := false, phase := .mAddr,
    trace := s.trace ++ [.drw v] } := by
  simp [drWrite, State.log, h]

/-- In a transmitter's data phase the unit goes to the shift register, or waits in `DR` (R34). -/
theorem drWrite_of_transmitter {s : State} (hsb : s.sb = false) (htra : s.tra = true)
    (hphase : s.phase = .mTx ∨ s.phase = .sTx) (haddr : s.addr = false) (v : Byte) : drWrite v s = { s with
      dr := v, btf := false, shift := if s.shTx then s.shift else v, shTx := true, txe := !s.shTx,
      trace := s.trace ++ [.drw v] } := by
  cases hshTx : s.shTx <;> simp [drWrite, State.log, hsb, htra, hphase, haddr, hshTx]

theorem drWrite_of_other {s : State} (hsb : s.sb = false)
    (h : ¬ (s.tra = true ∧ (s.phase = .mTx ∨ s.phase = .sTx) ∧ s.addr = false)) (v : Byte) :
    drWrite v s = { s with dr := v, trace := s.trace ++ [.drw v] } := by
  simp [drWrite, State.log, hsb, h]

/-- Settles O14: the three branches of `drWrite`. -/
theorem dataRegisterWriteHasThreeBranches : Obligations.DataRegisterWriteHasThreeBranches := by
  refine fun v s => ⟨fun hsb => drWrite_of_sb hsb v, fun hsb htra hphase haddr => ⟨fun hshTx => ?_, fun hshTx => ?_⟩,
    fun hsb hother => drWrite_of_other hsb (fun ⟨htra, hphase, haddr⟩ => ?_) v⟩
  · rw [drWrite_of_transmitter hsb htra hphase haddr]
    simp [hshTx]
  · rw [drWrite_of_transmitter hsb htra hphase haddr]
    simp [hshTx]
  · simp_all

theorem regRead_dr_eq (s : State) : regRead .dr s = { s with
    dr := if s.shRx then s.shift else s.dr, shRx := false, btf := if s.shRx then false else s.btf,
    rxne := if s.shRx then s.rxne else false, rdata := s.dr.setWidth 32, trace := s.trace ++ [.drr s.dr] } := by
  rw [regRead, regReadEffect, drRead_eq]
  rfl

/-- Settles O15: the two operations' equations, and the port read of `DR`. -/
theorem dataRegisterReadOperationsTakeEffect : Obligations.DataRegisterReadOperationsTakeEffect := by
  refine fun s hready => ⟨fun hclk => ⟨?_, ?_⟩, regRead_dr_eq s ▸ runs_portRead hready .word 0x10⟩
  · rw [exec_of_legal (i := .pReadUnit) ⟨hready, hclk⟩, legalEffect_pReadUnit]
  · rw [exec_of_legal (i := .srecv) ⟨hready, hclk⟩, legalEffect_srecv]

/-- Settles O16: the operation's equation in the two cases of its ACK rule. -/
theorem clearAddressFlagAppliesTheAckRule : Obligations.ClearAddressFlagAppliesTheAckRule := by
  intro s hready hclk
  rw [exec_of_legal (i := .pClearAddr) ⟨hready, hclk⟩, legalEffect_pClearAddr]
  refine ⟨fun hrole hremain => ?_, fun hother => ?_⟩
  · simp [hrole, hremain]
  · have hno : ¬ (s.role = .busyRx ∧ s.remain = 1) := not_and_or.mpr hother
    simp only [if_neg hno, List.append_nil]

/-! ### Transfers and dispatchers -/

/-- Settles O20: both transfers are `acceptBlocking`, on a ready and on a busy session. -/
theorem blockingTransferIsAcceptedOrRejected : Obligations.BlockingTransferIsAcceptedOrRejected := by
  intro s a rs hmode hclk hlen
  rw [exec_of_legal (i := .msend a rs) ⟨hmode, hclk, hlen⟩, exec_of_legal (i := .mrecv a rs) ⟨hmode, hclk, hlen⟩]
  exact ⟨fun hready => ⟨congrArg _ (acceptBlocking_of_ready hready ..), congrArg _ (acceptBlocking_of_ready hready ..)⟩,
    fun hbusy => ⟨congrArg _ (acceptBlocking_of_busy hbusy ..), congrArg _ (acceptBlocking_of_busy hbusy ..)⟩⟩

theorem runs_pulse_of_idle {s : State} (hmode : s.seqMode = .idle) (hclk : s.clken = true) (l : IrqLine) :
    Runs (.pulse l) s (enterDispatcher l s) := by
  rw [runs_iff, perform, pulseMove, if_pos hmode]
  cases l
  · exact exec_of_legal (i := .evdisp) ⟨hmode, hclk⟩
  · exact exec_of_legal (i := .erdisp) ⟨hmode, hclk⟩

/-- Settles O22: word and pulse are the one entry `enterDispatcher`. -/
theorem dispatcherEntryChangesOnlyThePosition : Obligations.DispatcherEntryChangesOnlyThePosition :=
  fun _ hmode hclk =>
    ⟨exec_of_legal (i := .evdisp) ⟨hmode, hclk⟩, exec_of_legal (i := .erdisp) ⟨hmode, hclk⟩,
      runs_pulse_of_idle hmode hclk .ev, runs_pulse_of_idle hmode hclk .er⟩

end Sys2Proof.Machine

/-! The frame of the operations, by their classes. -/

namespace Sys2Proof.Machine

theorem legalEffect_frame_of_touchesData {i : Instr} {s t : State} (hi : touchesData i = true)
    (h : legalEffect i s = t) : t = { s with
      dr := t.dr, sb := t.sb, btf := t.btf, rxne := t.rxne, txe := t.txe, shift := t.shift, shTx := t.shTx,
      shRx := t.shRx, phase := t.phase, resVal := t.resVal, resSt := t.resSt, trace := t.trace } := by
  cases i <;> simp only [touchesData, Bool.false_eq_true] at hi
  case pReadUnit => rw [legalEffect_pReadUnit] at h; subst h; rfl
  case srecv => rw [legalEffect_srecv] at h; subst h; rfl
  all_goals
    subst h
    simp only [legalEffect_pAddrW, legalEffect_pAddrR, legalEffect_pWriteUnit, legalEffect_ssend]
    rw [drWrite_frame]

theorem legalEffect_frame_of_armsSession {i : Instr} {s t : State} (hi : armsSession i = true)
    (h : legalEffect i s = t) : t = { s with
      role := t.role, cursor := t.cursor, remain := t.remain, taddr := t.taddr, rs := t.rs, start := t.start,
      ack := t.ack, iterren := t.iterren, itevten := t.itevten, itbufen := t.itbufen, resVal := t.resVal,
      resSt := t.resSt, trace := t.trace } := by
  cases i <;> simp only [armsSession, Bool.false_eq_true] at hi
  all_goals
    subst h
    simp only [legalEffect, arming]
    split <;> rfl

theorem legalEffect_frame_of_startsSeq {i : Instr} {s t : State} (hi : startsSeq i = true)
    (h : legalEffect i s = t) : t = { s with
      seqMode := t.seqMode, bop := t.bop, bpc := t.bpc, dpc := t.dpc, wCur := t.wCur, wLen := t.wLen,
      wAddr := t.wAddr, wRs := t.wRs, resVal := t.resVal, resSt := t.resSt, trace := t.trace } := by
  cases i <;> simp only [startsSeq, Bool.false_eq_true] at hi
  case evdisp | erdisp => subst h; rfl
  all_goals subst h; rw [legalEffect, acceptBlocking_frame rfl]

/-- The operations that neither access the data register nor write the session or the sequencer. -/
theorem legalEffect_frame_of_control {i : Instr} {s t : State} (hdata : touchesData i = false)
    (harm : armsSession i = false) (hseq : startsSeq i = false) (h : legalEffect i s = t) : t = { s with
      fs := t.fs, duty := t.duty, own := t.own, pe := t.pe, start := t.start, stop := t.stop, ack := t.ack,
      clken := t.clken, addr := t.addr, stopf := t.stopf, txe := t.txe, addrRd := t.addrRd, cbEn := t.cbEn,
      resVal := t.resVal, resSt := t.resSt, trace := t.trace } := by
  cases i <;> simp only [touchesData, armsSession, startsSeq, Bool.true_eq_false] at hdata harm hseq
  case pClearAddr => rw [legalEffect_pClearAddr] at h; subst h; rfl
  all_goals subst h; rfl

theorem sameSession_iff {s t : State} : SameSession s t ↔
    t.role = s.role ∧ t.cursor = s.cursor ∧ t.remain = s.remain ∧ t.taddr = s.taddr ∧ t.rs = s.rs :=
  ⟨fun ⟨h1, h2, h3, h4, h5⟩ => ⟨h1, h2, h3, h4, h5⟩, fun ⟨h1, h2, h3, h4, h5⟩ => ⟨h1, h2, h3, h4, h5⟩⟩

theorem sameEnables_iff {s t : State} : SameEnables s t ↔
    t.iterren = s.iterren ∧ t.itevten = s.itevten ∧ t.itbufen = s.itbufen :=
  ⟨fun ⟨h1, h2, h3⟩ => ⟨h1, h2, h3⟩, fun ⟨h1, h2, h3⟩ => ⟨h1, h2, h3⟩⟩

theorem sameConfig_iff {s t : State} : SameConfig s t ↔ t.fs = s.fs ∧ t.duty = s.duty ∧ t.own = s.own :=
  ⟨fun ⟨h1, h2, h3⟩ => ⟨h1, h2, h3⟩, fun ⟨h1, h2, h3⟩ => ⟨h1, h2, h3⟩⟩

theorem sameErrors_iff {s t : State} : SameErrors s t ↔
    t.berr = s.berr ∧ t.arlo = s.arlo ∧ t.af = s.af ∧ t.ovr = s.ovr ∧ t.timeout = s.timeout :=
  ⟨fun ⟨h1, h2, h3, h4, h5⟩ => ⟨h1, h2, h3, h4, h5⟩, fun ⟨h1, h2, h3, h4, h5⟩ => ⟨h1, h2, h3, h4, h5⟩⟩

theorem sameData_iff {s t : State} : SameData s t ↔
    t.dr = s.dr ∧ t.shift = s.shift ∧ t.shTx = s.shTx ∧ t.shRx = s.shRx :=
  ⟨fun ⟨h1, h2, h3, h4⟩ => ⟨h1, h2, h3, h4⟩, fun ⟨h1, h2, h3, h4⟩ => ⟨h1, h2, h3, h4⟩⟩

theorem sameSeq_iff {s t : State} : SameSeq s t ↔
    t.seqMode = s.seqMode ∧ t.cbw = s.cbw ∧ t.bop = s.bop ∧ t.bpc = s.bpc ∧ t.dpc = s.dpc ∧ t.wCur = s.wCur ∧
      t.wLen = s.wLen ∧ t.wAddr = s.wAddr ∧ t.wRs = s.wRs :=
  ⟨fun ⟨h1, h2, h3, h4, h5, h6, h7, h8, h9⟩ => ⟨h1, h2, h3, h4, h5, h6, h7, h8, h9⟩,
    fun ⟨h1, h2, h3, h4, h5, h6, h7, h8, h9⟩ => ⟨h1, h2, h3, h4, h5, h6, h7, h8, h9⟩⟩

theorem sameMemory_of_mem_eq {s t : State} (h : t.mem = s.mem) : SameMemory s t := fun a => by
  rw [State.memAt, h]
  rfl

/-- Settles O24: an illegal operation changes `RESULT` and the trace; of the legal ones the first three classes have
their frames, and the control operations their equations. -/
theorem operationsChangeOnlyTheirOwnState : Obligations.OperationsChangeOnlyTheirOwnState := by
  intro i s t h
  have hmem : SameMemory s t := by
    rcases exec_eq_next h with ⟨-, h⟩ | ⟨-, rfl⟩
    · exact sameMemory_of_mem_eq (by rw [legalEffect_frame h.symm])
    · exact fun _ => rfl
  refine ⟨hmem, ?_⟩
  simp only [sameErrors_iff, sameSession_iff, sameEnables_iff, sameConfig_iff, sameSeq_iff, sameData_iff]
  rcases exec_eq_next h with ⟨-, h⟩ | ⟨-, rfl⟩
  swap
  · simp [State.afterIllegal]
  cases hdata : touchesData i
  swap
  · rw [legalEffect_frame_of_touchesData hdata h.symm]; simp
  cases harm : armsSession i
  swap
  · rw [legalEffect_frame_of_armsSession harm h.symm]; simp
  cases hseq : startsSeq i
  swap
  · rw [legalEffect_frame_of_startsSeq hseq h.symm]; simp
  subst h
  cases i <;> simp_all [touchesData, armsSession, startsSeq, isInit, isSetCb]

end Sys2Proof.Machine

/-! The flags along the steps of the machine (10_state.md R56). -/

namespace Sys2Proof.Machine

/-! ### Who sets `STOPF` (R56 g) -/

theorem stopf_of_regRead {r : Reg} {s : State} (h : (regRead r s).stopf = true) : s.stopf = true := by
  cases r with
  | sr1 => cases h
  | dr => rw [regRead_dr_eq] at h; exact h
  | sr2 =>
    simp only [regRead, regReadEffect, sr2ReadEffect] at h
    split at h <;> exact h
  | ctrl | ien | oar | cfg | sesRole | sesCursor | sesRemain | sesTarget | opBuf | opLen | cmd | result | clken
  | reserved => exact h

theorem stopf_of_legalEffect {i : Instr} {s : State} (h : (legalEffect i s).stopf = true) : s.stopf = true := by
  cases hdata : touchesData i
  swap
  · rwa [legalEffect_frame_of_touchesData hdata rfl] at h
  cases harm : armsSession i
  swap
  · rwa [legalEffect_frame_of_armsSession harm rfl] at h
  cases hseq : startsSeq i
  swap
  · rwa [legalEffect_frame_of_startsSeq hseq rfl] at h
  cases i <;> simp_all [touchesData, armsSession, startsSeq]

theorem stopf_of_dispatcherStep {s : State} (h : (dispatcherStep s).stopf = true) : s.stopf = true := by
  unfold dispatcherStep at h
  split at h <;>
    simp_all [clearAddrOp_eq, stopUnless_eq, closeOp, callback_eq, clearStopfOp, ite_ackDisOp_eq, storeUnit,
      memWrite_drRead_eq, loadUnit, memRead, exitDispatcher]

theorem stopf_of_wireEffect {e : WireEvent} {s : State} (h : (wireEffect e s).stopf = true) :
    s.stopf = true ∨ e = .eStop := by
  cases e with
  | eStop => exact .inr rfl
  | start | arlo => exact .inl h
  | stop =>
    simp only [wireEffect, wireStop, stopNow, doStop_eq] at h
    split_ifs at h <;> exact .inl h
  | addrResult a =>
    cases a
    · exact .inl h
    · simp only [wireEffect, wireAddrResult] at h
      split_ifs at h <;> exact .inl h
  | txByte a =>
    cases a
    · exact .inl h
    · simp only [wireEffect, wireTxByte, stopNow, doStop_eq] at h
      split_ifs at h <;> exact .inl h
  | rxByte b =>
    simp only [wireEffect, wireRxByte_eq, stopNow, restartNow, doStart, doStop_eq] at h
    split_ifs at h <;> exact .inl (by simpa using h)
  | eAddress a7 rw =>
    simp only [wireEffect, wireEAddress] at h
    split_ifs at h <;> exact .inl h
  | err f => cases f <;> exact .inl h

theorem stopf_of_moved {s t : State} {m : Move} (h : Moved s m t) (hs : s.stopf = false) (ht : t.stopf = true) :
    m = .wire .eStop ∧ s.msl = false := by
  have hno : s.stopf ≠ true := by simp [hs]
  cases h with
  | wire e hen =>
    rcases stopf_of_wireEffect ht with h | rfl
    · exact absurd h hno
    · have hguard : eStopGuard s := of_decide_eq_true hen.2.2
      exact ⟨rfl, hguard.1⟩
  | portRead => exact absurd (stopf_of_regRead ht) hno
  | portWrite => rw [regWrite_frame rfl] at ht; exact absurd ht hno
  | operation w i => exact absurd (stopf_of_legalEffect (s := { s with cmd := w }) ht) hno
  | blocking => rw [blockingStep_frame rfl] at ht; exact absurd ht hno
  | dispatcher => exact absurd (stopf_of_dispatcherStep ht) hno
  | reset => cases ht
  | blocked | illegalWord | cbDone | memStore | entered | illegalPulse => exact absurd ht hno

/-! ### Who clears a request (R56 h) -/

/-- No pending request is dropped from `s` to `t`. -/
def KeepsRequests (s t : State) : Prop := (s.start = true → t.start = true) ∧ (s.stop = true → t.stop = true)

theorem legalEffect_keepsRequests {i : Instr} (hi : i ≠ .pPeDis) (s : State) : KeepsRequests s (legalEffect i s) := by
  unfold KeepsRequests
  cases hdata : touchesData i
  swap
  · rw [legalEffect_frame_of_touchesData hdata rfl]; exact ⟨id, id⟩
  cases hseq : startsSeq i
  swap
  · rw [legalEffect_frame_of_startsSeq hseq rfl]; exact ⟨id, id⟩
  cases i
  case msendA | mrecvA =>
    simp only [legalEffect, arming]
    split
    · exact ⟨fun _ => rfl, id⟩
    · exact ⟨id, id⟩
  all_goals simp_all [touchesData, startsSeq]

theorem blockingStep_keepsRequests (s : State) : KeepsRequests s (blockingStep s) := by
  unfold KeepsRequests blockingStep
  cases hpos : s.bpc
  case t1 | t3 | t5 | t7 | v2 | v4 | v8 | v11 => dsimp only; split_ifs <;> exact ⟨id, id⟩
  all_goals
    simp +contextual [startReqOp, ackEnOp, ackDisOp, finishBlocking, sendUnit, recvUnit, addrWOp, addrROp,
      clearAddrOp_eq, stopUnless_eq, memWrite_drRead_eq, memRead]
  case v12 => split_ifs <;> simp

theorem dispatcherStep_keepsRequests (s : State) : KeepsRequests s (dispatcherStep s) := by
  refine ⟨fun h => ?_, fun h => ?_⟩
  · rw [dispatcherStep_frame rfl]; exact h
  · unfold dispatcherStep
    split <;>
      simp [h, clearAddrOp_eq, stopUnless_eq, closeOp, callback_eq, clearStopfOp, ite_ackDisOp_eq, storeUnit,
        memWrite_drRead_eq, loadUnit, memRead, exitDispatcher]

theorem regWrite_keepsRequests {r : Reg} {w : Word} {s : State}
    (h : Rec.prim .peDis ∉ (regWrite r w s).trace.drop s.trace.length) : KeepsRequests s (regWrite r w s) := by
  unfold KeepsRequests
  by_cases hen : s.clken = true ∨ r = .clken
  swap
  · rw [regWrite, if_neg hen]; exact ⟨id, id⟩
  rw [regWrite, if_pos hen] at h ⊢
  cases r with
  | ctrl =>
    simp only [regWriteEffect, writeCtrl_eq, List.drop_left] at h ⊢
    have hdis : disablesPe w s = false := by
      by_contra hdis
      simp [hdis] at h
    simp +contextual [hdis]
  | dr => simp [regWriteEffect]
  | oar | cfg => simp only [regWriteEffect]; split <;> exact ⟨id, id⟩
  | clken => simp only [regWriteEffect, writeClken]; split_ifs <;> exact ⟨id, id⟩
  | ien | sr1 | sr2 | sesRole | sesCursor | sesRemain | sesTarget | opBuf | opLen | cmd | result | reserved =>
    exact ⟨id, id⟩

theorem keepsRequests_of_moved {s t : State} {m : Move} (h : Moved s m t) :
    KeepsRequests s t ∨ (∃ e : WireEvent, m = .wire e) ∨ m = .reset ∨
      Rec.prim .peDis ∈ t.trace.drop s.trace.length := by
  have hkeep : KeepsRequests s s := ⟨id, id⟩
  cases h with
  | wire e => exact .inr (.inl ⟨e, rfl⟩)
  | reset => exact .inr (.inr (.inl rfl))
  | portRead => exact .inl (by rw [KeepsRequests, regRead_frame rfl]; exact hkeep)
  | portWrite width off w =>
    by_cases hdis : Rec.prim .peDis ∈ (regWrite (portReg width off) w s).trace.drop s.trace.length
    · exact .inr (.inr (.inr hdis))
    · exact .inl (regWrite_keepsRequests hdis)
  | operation w i =>
    by_cases hi : i = .pPeDis
    · subst hi
      exact .inr (.inr (.inr (by simp)))
    · exact .inl (legalEffect_keepsRequests (s := { s with cmd := w }) hi)
  | blocking => exact .inl (blockingStep_keepsRequests s)
  | dispatcher => exact .inl (dispatcherStep_keepsRequests s)
  | blocked | illegalWord | cbDone | memStore | entered | illegalPulse => exact .inl hkeep

/-- Settles O53: `FlagInv` holds at reset and along every move; of the moves only `W_E_STOP` sets `STOPF`; and a
request is dropped only by the wire engine, by reset or with the record of `P_PE_DIS`. -/
theorem everyStepKeepsTheFlagInvariants : Obligations.EveryStepKeepsTheFlagInvariants := by
  refine ⟨flagInv_reset, fun s t => FlagInv.step, fun s t h hs ht => ?_, fun s t h hcleared => ?_⟩
  · obtain ⟨l, n, hmoved⟩ := moved_of_step h
    have hwho := stopf_of_moved hmoved hs ht
    exact hwho
  · obtain ⟨l, n, hmoved⟩ := moved_of_step h
    refine (keepsRequests_of_moved hmoved).resolve_left fun ⟨hstart, hstop⟩ => ?_
    rcases hcleared with ⟨hset, hclear⟩ | ⟨hset, hclear⟩
    · simp [hstart hset] at hclear
    · simp [hstop hset] at hclear

end Sys2Proof.Machine

/-! The invariants of the sequencer and of the session (10_state.md R26, R44, R46) along the steps of the machine. -/

namespace Sys2Proof.Machine

/-- The fields that `SeqInv` speaks of. -/
def State.seqView (s : State) :=
  (s.seqMode, s.cbw, s.cbValid, s.bop, s.bpc, s.dpc, s.wLen, s.role, s.remain, s.cursor, s.taddr, s.rs)

/-- `SeqInv` reads `seqView` alone. -/
theorem SeqInv.of_seqView_eq {s t : State} (hs : SeqInv s) (h : t.seqView = s.seqView) : SeqInv t := by
  simp only [State.seqView, Prod.mk.injEq] at h
  obtain ⟨hmode, hcbw, hcbValid, hbop, hbpc, hdpc, hwLen, hrole, hremain, hcursor, htaddr, hrs⟩ := h
  cases hs
  constructor <;>
    simpa only [hmode, hcbw, hcbValid, hbop, hbpc, hdpc, hwLen, hrole, hremain, hcursor, htaddr, hrs]

/-! ### Operations -/

/-- Where HOST can issue no dispatcher is at the actions of a check: it is at a position where it resumes. -/
theorem SeqInv.resumes_of_hostReady {s : State} (hs : SeqInv s) (hready : s.hostReady) (hmode : s.seqMode ≠ .idle) :
    s.dpc.resumes = true :=
  hs.cbwPos (hready.resolve_left hmode)

theorem DStep.sessionOk_of_resumes {d : DStep} (h : d.resumes = true) (role : Role) (remain : Word) :
    d.sessionOk role remain := by
  cases d <;> trivial

theorem SeqInv.armSession {s : State} (hs : SeqInv s) (hready : s.hostReady) (hlen : s.opLen ≠ 0) {role : Role}
    (hrole : role ≠ .ready) (a : Addr7) (rs : Bool) : SeqInv (armSession role a rs s) := by
  have hblk : s.seqMode ≠ .blk := fun hblk => by
    rcases hready with hidle | hcbw
    · simp [hblk] at hidle
    · simpa [hblk] using hs.cbwMode hcbw
  have hev (hmode : s.seqMode = .ev) : s.dpc.sessionOk role s.opLen :=
    DStep.sessionOk_of_resumes (hs.resumes_of_hostReady hready (by simp [hmode])) role s.opLen
  cases hs
  constructor <;> simp_all [Machine.armSession]

theorem SeqInv.acceptBlocking {s : State} (hs : SeqInv s) (hmode : s.seqMode = .idle) (t : Transfer)
    {op : BlockOp} {first : BStep} (hop : first.ofMsend = true ↔ op = .msend)
    (hfirst : first.lenOk s.opLen) (a : Addr7) (rs : Bool) : SeqInv (acceptBlocking t op first a rs s) := by
  by_cases hready : s.role = .ready
  · rw [acceptBlocking_of_ready hready]
    cases hs
    constructor <;> simp_all
  · rw [acceptBlocking_of_busy hready]
    exact hs.of_seqView_eq rfl

theorem SeqInv.enterDispatcher {s : State} (hs : SeqInv s) (hmode : s.seqMode = .idle) (l : IrqLine) :
    SeqInv (enterDispatcher l s) := by
  cases hs
  cases l <;>
    constructor <;>
      simp_all [Machine.enterDispatcher, IrqLine.mode, IrqLine.firstCheck, DStep.belongsTo, DStep.sessionOk]

theorem SeqInv.legalEffect {s : State} (hs : SeqInv s) {i : Instr} (hlegal : legalIn i s) :
    SeqInv (legalEffect i s) := by
  cases hdata : touchesData i
  swap
  · rw [legalEffect_frame_of_touchesData hdata rfl]; exact hs.of_seqView_eq rfl
  cases i with
  | msend a rs =>
    obtain ⟨hmode, -, hlen⟩ := hlegal
    exact hs.acceptBlocking hmode .msend (first := .t0) (by decide) hlen a rs
  | mrecv a rs =>
    obtain ⟨hmode, -, hlen⟩ := hlegal
    exact hs.acceptBlocking hmode .mrecv (first := .v0) (by decide) hlen a rs
  | msendA a rs =>
    obtain ⟨hready, -, hlen⟩ := hlegal
    have harmed := hs.armSession hready hlen (role := .busyTx) (by decide) a rs
    simp only [Machine.legalEffect, arming]
    split
    · exact harmed.of_seqView_eq rfl
    · exact hs.of_seqView_eq rfl
  | mrecvA a rs =>
    obtain ⟨hready, -, hlen⟩ := hlegal
    have harmed := hs.armSession hready hlen (role := .busyRx) (by decide) a rs
    simp only [Machine.legalEffect, arming]
    split
    · exact harmed.of_seqView_eq rfl
    · exact hs.of_seqView_eq rfl
  | evdisp => exact hs.enterDispatcher hlegal.1 .ev
  | erdisp => exact hs.enterDispatcher hlegal.1 .er
  | pAddrW | pAddrR | pReadUnit | pWriteUnit | srecv | ssend => cases hdata
  | pClearAddr => rw [legalEffect_pClearAddr]; exact hs.of_seqView_eq rfl
  | pClkEn | pClkDis | pPeEn | pPeDis | pAckEn | pAckDis | pStartReq | pStopReq | pClearStopf | init | setCb =>
    exact hs.of_seqView_eq rfl

theorem SeqInv.callbackDone {s : State} (hs : SeqInv s) : SeqInv (callbackDone s) := by
  cases hs
  constructor <;> simp_all [Machine.callbackDone]

/-! ### Blocking operations -/

/-- A step of a blocking operation ends it or leads to a label of the same operation, with the `W_LEN` of that label. -/
theorem blockingStep_position {s : State} (hmode : s.seqMode = .blk) (hlen : s.bpc.lenOk s.wLen) :
    (blockingStep s).seqMode = .idle ∨ ((blockingStep s).seqMode = .blk ∧
      (blockingStep s).bpc.ofMsend = s.bpc.ofMsend ∧ (blockingStep s).bpc.lenOk (blockingStep s).wLen) := by
  unfold blockingStep
  cases hpos : s.bpc <;> simp only [hpos, BStep.lenOk, ne_eq] at hlen
  case t1 | t3 | t5 | t7 | v2 | v4 | v8 | v11 | v12 =>
    dsimp only
    split_ifs <;> simp_all [BStep.ofMsend, BStep.lenOk, finishBlocking, ackDisOp]
  case t0 | v0 | v1 => exact .inr ⟨hmode, rfl, hlen⟩
  case t2 | v3 =>
    exact .inr ⟨by simp [hmode, addrWOp, addrROp], rfl, by simpa [BStep.lenOk, addrWOp, addrROp] using hlen⟩
  all_goals
    simp [hmode, hlen, BStep.ofMsend, BStep.lenOk, ackDisOp, finishBlocking, sendUnit, recvUnit, clearAddrOp_eq,
      stopUnless_eq, memWrite_drRead_eq, memRead]

theorem SeqInv.blockingStep {s : State} (hs : SeqInv s) (hcbw : s.cbw = false) (hmode : s.seqMode = .blk) :
    SeqInv (blockingStep s) := by
  have hpos := blockingStep_position hmode (hs.blkLen hmode)
  rw [blockingStep_frame (s := s) rfl]
  generalize Machine.blockingStep s = t at hpos
  cases hs
  rcases hpos with hidle | ⟨hblk, hop, hlen⟩
  · constructor <;> simp_all
  · constructor <;> simp_all

/-! ### Dispatchers -/

/-- A dispatcher that leaves for position `d`, with the session as it is. -/
theorem SeqInv.move {s : State} (hs : SeqInv s) (hcbw : s.cbw = false) {d : DStep}
    (her : s.seqMode = .er → d.belongsTo .er = true)
    (hev : s.seqMode = .ev → d.belongsTo .ev = true ∧ d.sessionOk s.role s.remain ∧
      (s.dpc.closesReceive = true → d.closesReceive = true)) : SeqInv { s with dpc := d } where
  cbwMode h := hs.cbwMode h
  cbValid := hs.cbValid
  cbwPos h := absurd h (by simp [hcbw])
  blkPos h := hs.blkPos h
  blkRole h := hs.blkRole h
  blkLen h := hs.blkLen h
  evPos h := (hev h).1
  erPos h := her h
  readySession h := hs.readySession h
  rxRemain h := (hs.rxRemain h).imp_right fun ⟨hmode, hcloses⟩ => ⟨hmode, (hev hmode).2.2 hcloses⟩
  evSession h := (hev h).2.1

theorem SeqInv.evMove {s t : State} (hs : SeqInv s) (hcbw : s.cbw = false) (hmode : s.seqMode = .ev) {d : DStep}
    (hview : t.seqView = { s with dpc := d }.seqView) (hd : d.belongsTo .ev = true)
    (hsession : d.sessionOk s.role s.remain) (hcloses : s.dpc.closesReceive = true → d.closesReceive = true) :
    SeqInv t :=
  (hs.move hcbw (fun h => by simp [hmode] at h) fun _ => ⟨hd, hsession, hcloses⟩).of_seqView_eq hview

theorem SeqInv.erMove {s t : State} (hs : SeqInv s) (hcbw : s.cbw = false) (hmode : s.seqMode = .er) {d : DStep}
    (hview : t.seqView = { s with dpc := d }.seqView) (hd : d.belongsTo .er = true) : SeqInv t :=
  (hs.move hcbw (fun _ => hd) (fun h => by simp [hmode] at h)).of_seqView_eq hview

/-- SEQ hands over to the callback at a position where the dispatcher resumes. -/
theorem SeqInv.handOver {s : State} (hs : SeqInv s) (hmode : s.seqMode = .ev ∨ s.seqMode = .er)
    (hresumes : s.dpc.resumes = true) : SeqInv { s with cbw := true, cbValid := true } where
  cbwMode _ := hmode
  cbValid := rfl
  cbwPos _ := hresumes
  blkPos h := hs.blkPos h
  blkRole h := hs.blkRole h
  blkLen h := hs.blkLen h
  evPos h := hs.evPos h
  erPos h := hs.erPos h
  readySession h := hs.readySession h
  rxRemain h := hs.rxRemain h
  evSession h := hs.evSession h

theorem SeqInv.callback {s : State} {next : DStep} (hmoved : SeqInv { s with dpc := next })
    (hmode : s.seqMode = .ev ∨ s.seqMode = .er) (hresumes : next.resumes = true) (e : Event) :
    SeqInv (callback e next s) := by
  rw [callback_eq]
  cases s.cbEn
  · exact hmoved.of_seqView_eq rfl
  · exact (hmoved.handOver hmode hresumes).of_seqView_eq rfl

/-- `CLOSE` leaves an empty session. -/
theorem SeqInv.closeOp {s : State} (hs : SeqInv s) (hcbw : s.cbw = false) (hmode : s.seqMode = .ev) {d : DStep}
    (hd : d.belongsTo .ev = true) (hsession : d.sessionOk .ready 0) : SeqInv { closeOp s with dpc := d } where
  cbwMode h := hs.cbwMode h
  cbValid := hs.cbValid
  cbwPos h := absurd (hcbw.symm.trans h) (by decide)
  blkPos h := absurd (hmode.symm.trans h) (by decide)
  blkRole _ := rfl
  blkLen h := absurd (hmode.symm.trans h) (by decide)
  evPos _ := hd
  erPos h := absurd (hmode.symm.trans h) (by decide)
  readySession _ := ⟨rfl, rfl, rfl, rfl⟩
  rxRemain h := by cases h
  evSession _ := hsession

/-- One unit of a busy session is transferred. -/
theorem SeqInv.unit {s t : State} (hs : SeqInv s) (hcbw : s.cbw = false) (hmode : s.seqMode = .ev)
    (hbusy : s.role ≠ .ready) {d : DStep}
    (hview : t.seqView =
      { s with dpc := d, cursor := advance s.cursor, remain := decrement s.remain }.seqView)
    (hd : d.belongsTo .ev = true) (hsession : d.sessionOk s.role (decrement s.remain))
    (hrx : s.role = .busyRx → decrement s.remain ≠ 0 ∨ d.closesReceive = true) : SeqInv t :=
  have hunit : SeqInv { s with dpc := d, cursor := advance s.cursor, remain := decrement s.remain } :=
    { cbwMode := fun h => hs.cbwMode h
      cbValid := hs.cbValid
      cbwPos := fun h => absurd (hcbw.symm.trans h) (by decide)
      blkPos := fun h => absurd (hmode.symm.trans h) (by decide)
      blkRole := fun h => absurd (hmode.symm.trans h) (by decide)
      blkLen := fun h => absurd (hmode.symm.trans h) (by decide)
      evPos := fun _ => hd
      erPos := fun h => absurd (hmode.symm.trans h) (by decide)
      readySession := fun h => absurd h hbusy
      rxRemain := fun h => (hrx h).imp_right fun hcloses => ⟨hmode, hcloses⟩
      evSession := fun _ => hsession }
  hunit.of_seqView_eq hview

theorem SeqInv.exitDispatcher {s : State} (hs : SeqInv s) (hcbw : s.cbw = false) (hpos : s.dpc = .exit) :
    SeqInv (exitDispatcher s) where
  cbwMode h := absurd (hcbw.symm.trans h) (by decide)
  cbValid := hs.cbValid
  cbwPos h := absurd (hcbw.symm.trans h) (by decide)
  blkPos h := by cases h
  blkRole h := by cases h
  blkLen h := by cases h
  evPos h := by cases h
  erPos h := by cases h
  readySession h := hs.readySession h
  rxRemain h := .inl ((hs.rxRemain h).resolve_right fun ⟨_, hcloses⟩ => by
    simp [hpos, DStep.closesReceive] at hcloses)
  evSession h := by cases h

theorem ErrFlag.nextCheck_belongsTo (f : ErrFlag) : f.nextCheck.belongsTo .er = true := by cases f <;> rfl

theorem ErrFlag.nextCheck_resumes (f : ErrFlag) : f.nextCheck.resumes = true := by cases f <;> rfl

theorem SeqInv.erStep {s : State} (hs : SeqInv s) (hcbw : s.cbw = false) (hmode : s.seqMode = .er) :
    SeqInv (dispatcherStep s) := by
  have hpos := hs.erPos hmode
  cases hdpc : s.dpc
  case exit => simpa only [dispatcherStep, hdpc] using hs.exitDispatcher hcbw hdpc
  case err f sub =>
    cases sub <;> simp only [dispatcherStep, hdpc]
    case check =>
      refine hs.erMove hcbw hmode rfl ?_
      split
      · rfl
      · exact f.nextCheck_belongsTo
    case clear => exact hs.erMove (d := .err f .call) hcbw hmode (by cases f <;> rfl) rfl
    case call =>
      exact (hs.erMove hcbw hmode rfl f.nextCheck_belongsTo).callback (.inr hmode) f.nextCheck_resumes f.event
  all_goals
    rw [hdpc] at hpos
    cases hpos

theorem SeqInv.evStep {s : State} (hs : SeqInv s) (hcbw : s.cbw = false) (hmode : s.seqMode = .ev) :
    SeqInv (dispatcherStep s) := by
  have hpos := hs.evPos hmode
  have hsession := hs.evSession hmode
  -- the plain moves on to position `d`, and the callbacks
  have hmove {t : State} (d : DStep) (hcloses : s.dpc.closesReceive = true → d.closesReceive = true)
      (hd : d.belongsTo .ev = true) (hok : d.sessionOk s.role s.remain)
      (hview : t.seqView = { s with dpc := d }.seqView) : SeqInv t :=
    hs.evMove hcbw hmode hview hd hok hcloses
  have hcallback (d : DStep) (hd : d.resumes = true) (hbelongs : d.belongsTo .ev = true)
      (hopen : s.dpc.closesReceive = false) (e : Event) : SeqInv (Machine.callback e d s) :=
    (hmove d (by simp [hopen]) hbelongs (DStep.sessionOk_of_resumes hd _ _) rfl).callback (.inl hmode) hd e
  cases hdpc : s.dpc <;> simp only [dispatcherStep, hdpc, DStep.sessionOk] at hsession ⊢
  case exit => exact hs.exitDispatcher hcbw hdpc
  case err => rw [hdpc] at hpos; cases hpos
  case e2s3 => exact hcallback .e3 rfl rfl (by rw [hdpc]; rfl) _
  case e3s2 => exact hcallback .e4 rfl rfl (by rw [hdpc]; rfl) _
  case e4s5 | e4slave => exact hcallback .e5 rfl rfl (by rw [hdpc]; rfl) _
  case e5slave => exact hcallback .exit rfl rfl (by rw [hdpc]; rfl) _
  case e2s2 => exact hs.closeOp hcbw hmode rfl trivial
  case e4s4 => exact hs.closeOp hcbw hmode rfl trivial
  case e4s2 =>
    obtain ⟨hrole, hremain⟩ := hsession
    refine hs.unit hcbw hmode (by simp [hrole]) (d := if decrement s.remain = 0 then .e4s3 else .e5)
      (by rw [storeUnit, memWrite_drRead_eq]; rfl) ?_ ?_ fun _ => ?_
    all_goals split_ifs with hzero
    · rfl
    · rfl
    · exact ⟨hrole, hzero⟩
    · trivial
    · exact .inr rfl
    · exact .inl hzero
  case e5master =>
    obtain ⟨hrole, hremain⟩ := hsession
    refine hs.unit hcbw hmode (by simp [hrole]) (d := .exit) ?_ rfl trivial (by simp [hrole])
    simp only [loadUnit]
    rw [drWrite_frame]
    rfl
  case e0 | e1 | e3 =>
    refine hmove _ (by simp [hdpc, DStep.closesReceive]) ?_ ?_ rfl <;> split <;> trivial
  case e0a =>
    refine hmove .e1 (by simp [hdpc, DStep.closesReceive]) rfl trivial ?_
    cases hrole : s.role <;> simp [State.seqView, addressPhase, hrole, addrWOp, addrROp]
  case e1a => exact hmove .e2 (by simp [hdpc, DStep.closesReceive]) rfl trivial (by rw [clearAddrOp_eq]; rfl)
  case e2 =>
    split
    next hguard => exact hmove .e2s1 (by simp [hdpc, DStep.closesReceive]) rfl ⟨hguard.2.1, hguard.2.2.1⟩ rfl
    next => exact hmove .e3 (by simp [hdpc, DStep.closesReceive]) rfl trivial rfl
  case e2s1 =>
    exact hmove .e2s2 (by simp [hdpc, DStep.closesReceive]) rfl hsession (by rw [stopUnless_eq]; rfl)
  case e3s1 => exact hmove .e3s2 (by simp [hdpc, DStep.closesReceive]) rfl trivial rfl
  case e4 =>
    split_ifs with hmaster
    · exact hmove .e4s1 (by simp [hdpc, DStep.closesReceive]) rfl hmaster.2.2 rfl
    · exact hmove .e4slave (by simp [hdpc, DStep.closesReceive]) rfl trivial rfl
    · exact hmove .e5 (by simp [hdpc, DStep.closesReceive]) rfl trivial rfl
  case e4s1 =>
    exact hmove .e4s2 (by simp [hdpc, DStep.closesReceive]) rfl hsession (by rw [ite_ackDisOp_eq]; rfl)
  case e4s3 => exact hmove .e4s4 (fun _ => rfl) rfl hsession (by rw [stopUnless_eq]; rfl)
  case e5 =>
    split_ifs with hmaster
    · exact hmove .e5master (by simp [hdpc, DStep.closesReceive]) rfl hmaster.2.2 rfl
    · exact hmove .e5slave (by simp [hdpc, DStep.closesReceive]) rfl trivial rfl
    · exact hmove .exit (by simp [hdpc, DStep.closesReceive]) rfl trivial rfl

/-! ### The machine -/

theorem seqInv_resetMove (s : State) : SeqInv (resetMove s) := by
  constructor <;> simp [resetMove, State.reset]

theorem SeqInv.moved {s t : State} {m : Move} (hs : SeqInv s) (h : Moved s m t) : SeqInv t := by
  cases h with
  | blocked => exact hs
  | portRead => exact hs.of_seqView_eq (by rw [regRead_frame rfl]; rfl)
  | portWrite => exact hs.of_seqView_eq (by rw [regWrite_frame rfl]; rfl)
  | operation w i _ _ hlegal =>
    have hcmd : SeqInv { s with cmd := w } := hs.of_seqView_eq rfl
    exact hcmd.legalEffect (by cases i <;> exact hlegal)
  | illegalWord | memStore | illegalPulse => exact hs.of_seqView_eq rfl
  | cbDone => exact hs.callbackDone
  | blocking hcbw hmode => exact hs.blockingStep hcbw hmode
  | dispatcher hcbw hmode =>
    rcases hmode with hmode | hmode
    · exact hs.evStep hcbw hmode
    · exact hs.erStep hcbw hmode
  | wire => exact hs.of_seqView_eq (by rw [wireEffect_frame rfl]; rfl)
  | entered l hmode => exact hs.enterDispatcher hmode l
  | reset => exact seqInv_resetMove s

/-- Settles O54: `SeqInv` is kept by every move (`SeqInv.moved`). -/
theorem everyStepKeepsTheSequencerInvariants : Obligations.EveryStepKeepsTheSequencerInvariants := by
  intro s t hs h
  obtain ⟨l, n, hmoved⟩ := moved_of_step h
  have htaken : SeqInv { s with schedule := l, tick := n } := hs.of_seqView_eq rfl
  exact htaken.moved hmoved

end Sys2Proof.Machine

/-! `TRACE` is read by no rule (10_state.md section 9): every rule commutes with a change of the trace. -/

namespace Sys2Proof.Machine

/-- `s` with another trace. -/
def State.withTrace (s : State) (l : List Rec) : State := { s with trace := l }

@[simp] theorem State.withTrace_keeps (s : State) (l : List Rec) :
    (s.withTrace l).role = s.role ∧ (s.withTrace l).cursor = s.cursor ∧ (s.withTrace l).remain = s.remain ∧
    (s.withTrace l).taddr = s.taddr ∧ (s.withTrace l).rs = s.rs ∧ (s.withTrace l).fs = s.fs ∧
    (s.withTrace l).duty = s.duty ∧ (s.withTrace l).own = s.own ∧ (s.withTrace l).pe = s.pe ∧
    (s.withTrace l).start = s.start ∧ (s.withTrace l).stop = s.stop ∧ (s.withTrace l).ack = s.ack ∧
    (s.withTrace l).clken = s.clken ∧ (s.withTrace l).iterren = s.iterren ∧ (s.withTrace l).itevten = s.itevten ∧
    (s.withTrace l).itbufen = s.itbufen ∧ (s.withTrace l).dr = s.dr ∧ (s.withTrace l).sb = s.sb ∧
    (s.withTrace l).addr = s.addr ∧ (s.withTrace l).btf = s.btf ∧ (s.withTrace l).stopf = s.stopf ∧
    (s.withTrace l).rxne = s.rxne ∧ (s.withTrace l).txe = s.txe ∧ (s.withTrace l).berr = s.berr ∧
    (s.withTrace l).arlo = s.arlo ∧ (s.withTrace l).af = s.af ∧ (s.withTrace l).ovr = s.ovr ∧
    (s.withTrace l).timeout = s.timeout ∧ (s.withTrace l).msl = s.msl ∧ (s.withTrace l).busy = s.busy ∧
    (s.withTrace l).tra = s.tra ∧ (s.withTrace l).shift = s.shift ∧ (s.withTrace l).shTx = s.shTx ∧
    (s.withTrace l).shRx = s.shRx ∧ (s.withTrace l).phase = s.phase ∧ (s.withTrace l).nacked = s.nacked ∧
    (s.withTrace l).addrRd = s.addrRd ∧ (s.withTrace l).seqMode = s.seqMode ∧ (s.withTrace l).cbw = s.cbw ∧
    (s.withTrace l).bop = s.bop ∧ (s.withTrace l).bpc = s.bpc ∧ (s.withTrace l).dpc = s.dpc ∧
    (s.withTrace l).wCur = s.wCur ∧ (s.withTrace l).wLen = s.wLen ∧ (s.withTrace l).wAddr = s.wAddr ∧
    (s.withTrace l).wRs = s.wRs ∧ (s.withTrace l).wFailed = s.wFailed ∧ (s.withTrace l).cbEn = s.cbEn ∧
    (s.withTrace l).opBuf = s.opBuf ∧ (s.withTrace l).opLen = s.opLen ∧ (s.withTrace l).cmd = s.cmd ∧
    (s.withTrace l).resVal = s.resVal ∧ (s.withTrace l).resSt = s.resSt ∧ (s.withTrace l).rdata = s.rdata ∧
    (s.withTrace l).cbValid = s.cbValid ∧ (s.withTrace l).cbCode = s.cbCode ∧ (s.withTrace l).mem = s.mem ∧
    (s.withTrace l).schedule = s.schedule ∧ (s.withTrace l).tick = s.tick := by
  simp only [State.withTrace, and_self]

/-- `f` reads no trace: on a state with another trace it does the same, up to the trace. -/
def TraceBlind (f : State → State) : Prop :=
  ∀ (s : State) (l : List Rec), ∃ l' : List Rec, f (s.withTrace l) = (f s).withTrace l'

theorem TraceBlind.comp {f g : State → State} (hg : TraceBlind g) (hf : TraceBlind f) :
    TraceBlind fun s => g (f s) := fun s l => by
  obtain ⟨l', hl'⟩ := hf s l
  obtain ⟨l'', hl''⟩ := hg (f s) l'
  exact ⟨l'', (congrArg g hl').trans hl''⟩

/-- A choice under a condition that reads no trace. -/
theorem TraceBlind.ite {p : State → Prop} {_ : DecidablePred p} {f g : State → State}
    (hp : ∀ (s : State) (l : List Rec), p (s.withTrace l) ↔ p s) (hf : TraceBlind f) (hg : TraceBlind g) :
    TraceBlind fun s => if p s then f s else g s := fun s l => by
  simp only [hp]
  split
  · exact hf s l
  · exact hg s l

theorem traceBlind_id : TraceBlind fun s => s := fun _ l => ⟨l, rfl⟩

theorem traceBlind_log (e : Rec) : TraceBlind fun s => s.log e := fun _ _ => ⟨_, rfl⟩

theorem traceBlind_setResult (v : Byte) (st : BitVec 2) : TraceBlind fun s => s.setResult v st := fun _ _ => ⟨_, rfl⟩

theorem traceBlind_drRead : TraceBlind drRead := fun s l => by
  rw [drRead_eq, drRead_eq]
  exact ⟨_, rfl⟩

theorem traceBlind_drWrite (v : Byte) : TraceBlind (drWrite v) := by
  have hstore : TraceBlind fun s => { s with dr := v }.log (.drw v) := fun _ _ => ⟨_, rfl⟩
  refine TraceBlind.comp (g := fun s =>
    if s.sb then { s with sb := false, shift := v, shTx := true, shRx := false, btf := false, phase := .mAddr }
    else if s.tra ∧ (s.phase = .mTx ∨ s.phase = .sTx) ∧ s.addr = false then
      if s.shTx then { s with btf := false, txe := false }
      else { s with btf := false, shift := v, shTx := true, txe := true }
    else s) ?_ hstore
  exact .ite (fun _ _ => Iff.rfl) (fun _ _ => ⟨_, rfl⟩)
    (.ite (fun _ _ => Iff.rfl) (.ite (fun _ _ => Iff.rfl) (fun _ _ => ⟨_, rfl⟩) fun _ _ => ⟨_, rfl⟩) traceBlind_id)

theorem traceBlind_addrWOp (a : Addr7) : TraceBlind (addrWOp a) := (traceBlind_drWrite _).comp (traceBlind_log _)

theorem traceBlind_addrROp (a : Addr7) : TraceBlind (addrROp a) := (traceBlind_drWrite _).comp (traceBlind_log _)

theorem traceBlind_clearAddrOp : TraceBlind clearAddrOp := fun s l => by
  rw [clearAddrOp_eq, clearAddrOp_eq]
  exact ⟨_, rfl⟩

theorem traceBlind_stopUnless (rs : Bool) : TraceBlind (stopUnless rs) := fun s l => by
  rw [stopUnless_eq, stopUnless_eq]
  exact ⟨_, rfl⟩

theorem traceBlind_callback (e : Event) (next : DStep) : TraceBlind (callback e next) := fun s l => by
  rw [callback_eq, callback_eq]
  exact ⟨_, rfl⟩

theorem traceBlind_acceptBlocking (t : Transfer) (op : BlockOp) (first : BStep) (a : Addr7) (rs : Bool) :
    TraceBlind (acceptBlocking t op first a rs) := fun s l => by
  by_cases hready : s.role = .ready
  · rw [acceptBlocking_of_ready hready, acceptBlocking_of_ready (s := s.withTrace l) hready]
    exact ⟨_, rfl⟩
  · rw [acceptBlocking_of_busy hready, acceptBlocking_of_busy (s := s.withTrace l) hready]
    exact ⟨_, rfl⟩

theorem traceBlind_legalEffect (i : Instr) : TraceBlind (legalEffect i) := by
  cases i with
  | pAddrW a => exact (traceBlind_setResult 0 0).comp (traceBlind_addrWOp a)
  | pAddrR a => exact (traceBlind_setResult 0 0).comp (traceBlind_addrROp a)
  | pWriteUnit d => exact (traceBlind_setResult 0 0).comp ((traceBlind_drWrite d).comp (traceBlind_log _))
  | ssend d => exact (traceBlind_setResult 0 0).comp ((traceBlind_drWrite d).comp (traceBlind_log _))
  | pClearAddr => exact (traceBlind_setResult 0 0).comp traceBlind_clearAddrOp
  | msend a rs => exact traceBlind_acceptBlocking .msend .msend .t0 a rs
  | mrecv a rs => exact traceBlind_acceptBlocking .mrecv .mrecv .v0 a rs
  | pReadUnit | srecv => intro s l; simp only [legalEffect_pReadUnit, legalEffect_srecv]; exact ⟨_, rfl⟩
  | msendA | mrecvA =>
    intro s l
    by_cases hready : s.role = .ready
    · simp only [legalEffect, arming_of_ready hready, arming_of_ready (s := s.withTrace l) hready]
      exact ⟨_, rfl⟩
    · simp only [legalEffect, arming_of_busy hready, arming_of_busy (s := s.withTrace l) hready]
      exact ⟨_, rfl⟩
  | pClkEn | pClkDis | pPeEn | pPeDis | pAckEn | pAckDis | pStartReq | pStopReq | pClearStopf | init | setCb
  | evdisp | erdisp => exact fun _ _ => ⟨_, rfl⟩

theorem traceBlind_sendUnit : TraceBlind sendUnit := fun s l => by
  obtain ⟨l', hl'⟩ := (traceBlind_drWrite (s.memAt s.wCur)).comp (traceBlind_log (.memr s.wCur (s.memAt s.wCur))) s l
  exact ⟨l', congrArg (fun u : State => { u with wCur := advance s.wCur, wLen := decrement s.wLen }) hl'⟩

theorem traceBlind_loadUnit : TraceBlind loadUnit := fun s l => by
  obtain ⟨l', hl'⟩ :=
    (traceBlind_drWrite (s.memAt s.cursor)).comp (traceBlind_log (.memr s.cursor (s.memAt s.cursor))) s l
  exact ⟨l', congrArg (fun u : State => { u with cursor := advance s.cursor, remain := decrement s.remain }) hl'⟩

theorem traceBlind_setBpc (b : BStep) : TraceBlind fun s => { s with bpc := b } := fun _ _ => ⟨_, rfl⟩

theorem traceBlind_setDpc (d : DStep) : TraceBlind fun s => { s with dpc := d } := fun _ _ => ⟨_, rfl⟩

theorem traceBlind_blockingStep : TraceBlind blockingStep := fun s l => by
  cases hpos : s.bpc <;>
    simp only [blockingStep, hpos, State.addrAcked, State.unitWanted, State.unitsSent, State.unitArrived,
      State.withTrace_keeps]
  case t2 =>
    exact (show TraceBlind fun u : State => { u with bpc := .t3, wFailed := false } from fun _ _ => ⟨_, rfl⟩).comp
      (traceBlind_addrWOp s.wAddr) s l
  case v3 =>
    exact (show TraceBlind fun u : State => { u with bpc := .v4, wFailed := false } from fun _ _ => ⟨_, rfl⟩).comp
      (traceBlind_addrROp s.wAddr) s l
  case t4 => exact (traceBlind_setBpc .t5).comp traceBlind_clearAddrOp s l
  case v6 => exact (traceBlind_setBpc .v7).comp traceBlind_clearAddrOp s l
  case v10 => exact (traceBlind_setBpc .v11).comp traceBlind_clearAddrOp s l
  case t6 => exact (traceBlind_setBpc .t5).comp traceBlind_sendUnit s l
  case v7 => exact (traceBlind_setBpc .v8).comp (traceBlind_stopUnless s.wRs) s l
  case v12b => exact (traceBlind_setBpc .v13).comp (traceBlind_stopUnless s.wRs) s l
  case t8 =>
    exact (show TraceBlind finishBlocking from fun _ _ => ⟨_, rfl⟩).comp (traceBlind_stopUnless s.wRs) s l
  case v9 | v13 => simp only [recvUnit, memWrite_drRead_eq]; exact ⟨_, rfl⟩
  case t0 | v0 | v1 | v5 => exact ⟨_, rfl⟩
  all_goals split_ifs <;> exact ⟨_, rfl⟩

theorem traceBlind_dispatcherStep : TraceBlind dispatcherStep := fun s l => by
  cases hpos : s.dpc <;>
    simp only [dispatcherStep, hpos, txCompleteGuard, masterRxGuard, slaveRxGuard, masterTxGuard, slaveTxGuard,
      State.withTrace_keeps]
  case e0a =>
    cases hrole : s.role <;> simp only [addressPhase, hrole, State.withTrace_keeps]
    case ready => exact ⟨_, rfl⟩
    case busyTx => exact (traceBlind_setDpc .e1).comp (traceBlind_addrWOp s.taddr) s l
    case busyRx => exact (traceBlind_setDpc .e1).comp (traceBlind_addrROp s.taddr) s l
  case e1a => exact (traceBlind_setDpc .e2).comp traceBlind_clearAddrOp s l
  case e2s1 => exact (traceBlind_setDpc .e2s2).comp (traceBlind_stopUnless s.rs) s l
  case e4s3 => exact (traceBlind_setDpc .e4s4).comp (traceBlind_stopUnless s.rs) s l
  case e2s3 | e3s2 | e4s5 | e4slave | e5slave => exact traceBlind_callback _ _ s l
  case e4s1 => simp only [ite_ackDisOp_eq]; exact ⟨_, rfl⟩
  case e4s2 => simp only [storeUnit, memWrite_drRead_eq]; exact ⟨_, rfl⟩
  case e5master => exact (traceBlind_setDpc .exit).comp traceBlind_loadUnit s l
  case err f sub =>
    cases sub
    case check => cases f <;> exact ⟨_, rfl⟩
    case clear => cases f <;> exact ⟨_, rfl⟩
    case call => exact traceBlind_callback _ _ s l
  all_goals exact ⟨_, rfl⟩

theorem traceBlind_regReadEffect (r : Reg) : TraceBlind (regReadEffect r) := by
  cases r with
  | dr => exact traceBlind_drRead
  | sr2 =>
    have hrelease : TraceBlind State.releaseAddr := fun _ _ => ⟨_, rfl⟩
    exact .ite (fun _ _ => Iff.rfl) hrelease traceBlind_id
  | ctrl | ien | oar | cfg | sr1 | sesRole | sesCursor | sesRemain | sesTarget | opBuf | opLen | cmd | result | clken
  | reserved => exact fun _ _ => ⟨_, rfl⟩

theorem traceBlind_regRead (r : Reg) : TraceBlind (regRead r) := fun s l => by
  obtain ⟨l', hl'⟩ := traceBlind_regReadEffect r s l
  have hvalue : regValue r (s.withTrace l) = regValue r s := by cases r <;> rfl
  exact ⟨l', by rw [regRead, regRead, hl', hvalue]; rfl⟩

theorem traceBlind_regWriteEffect (r : Reg) (w : Word) : TraceBlind (regWriteEffect r w) := by
  cases r with
  | dr => exact traceBlind_drWrite _
  | ctrl =>
    intro s l
    simp only [regWriteEffect, writeCtrl_eq]
    exact ⟨_, rfl⟩
  | oar | cfg => exact .ite (fun _ _ => Iff.rfl) traceBlind_id fun _ _ => ⟨_, rfl⟩
  | clken =>
    have hoff : TraceBlind fun s : State => { s with clken := false } := fun _ _ => ⟨_, rfl⟩
    exact .ite (fun _ _ => Iff.rfl) (fun _ _ => ⟨_, rfl⟩) (.ite (fun _ _ => Iff.rfl) hoff traceBlind_id)
  | ien | sr1 | sr2 | sesRole | sesCursor | sesRemain | sesTarget | opBuf | opLen | cmd | result | reserved =>
    exact fun _ _ => ⟨_, rfl⟩

theorem traceBlind_regWrite (r : Reg) (w : Word) : TraceBlind (regWrite r w) :=
  .ite (fun _ _ => Iff.rfl) (traceBlind_regWriteEffect r w) traceBlind_id

theorem traceBlind_stopNow : TraceBlind stopNow := fun s l => by
  rw [stopNow, stopNow, doStop_eq, doStop_eq]
  exact ⟨_, rfl⟩

theorem traceBlind_restartNow : TraceBlind restartNow := fun _ _ => ⟨_, rfl⟩

theorem traceBlind_rxPlace (b : Byte) : TraceBlind (rxPlace b) :=
  .ite (fun _ _ => Iff.rfl) (fun _ _ => ⟨_, rfl⟩) fun _ _ => ⟨_, rfl⟩

theorem traceBlind_rxAnswer (a : Ack) : TraceBlind (rxAnswer a) := by
  cases a with
  | ack => exact traceBlind_id
  | nack => exact .ite (fun _ _ => Iff.rfl) (fun _ _ => ⟨_, rfl⟩) fun _ _ => ⟨_, rfl⟩

theorem traceBlind_received (b : Byte) : TraceBlind (received b) := fun s l =>
  (traceBlind_rxAnswer s.answer).comp ((traceBlind_rxPlace b).comp (traceBlind_log (.wire (.rxByte b s.answer)))) s l

theorem traceBlind_wireEffect (e : WireEvent) : TraceBlind (wireEffect e) := by
  cases e with
  | start | eStop | arlo => exact fun _ _ => ⟨_, rfl⟩
  | err f => cases f <;> exact fun _ _ => ⟨_, rfl⟩
  | stop => exact .ite (fun _ _ => Iff.rfl) traceBlind_stopNow fun _ _ => ⟨_, rfl⟩
  | addrResult a =>
    cases a with
    | nack => exact fun _ _ => ⟨_, rfl⟩
    | ack => exact .ite (fun _ _ => Iff.rfl) (fun _ _ => ⟨_, rfl⟩) fun _ _ => ⟨_, rfl⟩
  | txByte a =>
    cases a with
    | nack => exact fun _ _ => ⟨_, rfl⟩
    | ack =>
      have hlog (s : State) := traceBlind_log (.wire (.txByte s.shift .ack))
      exact .ite (fun _ _ => Iff.rfl) (fun s l => traceBlind_stopNow.comp (hlog s) s l)
        (.ite (fun _ _ => Iff.rfl) (fun s l => traceBlind_restartNow.comp (hlog s) s l)
          (.ite (fun _ _ => Iff.rfl) (fun _ _ => ⟨_, rfl⟩) fun _ _ => ⟨_, rfl⟩))
  | rxByte b =>
    have heq : wireEffect (.rxByte b) = fun s => if s.msl = true ∧ s.stop = true then stopNow (received b s)
        else if s.msl = true ∧ s.start = true then restartNow (received b s) else received b s :=
      funext (wireRxByte_eq b)
    rw [heq]
    exact .ite (fun _ _ => Iff.rfl) (traceBlind_stopNow.comp (traceBlind_received b))
      (.ite (fun _ _ => Iff.rfl) (traceBlind_restartNow.comp (traceBlind_received b)) (traceBlind_received b))
  | eAddress a7 rw =>
    exact .ite (fun _ _ => Iff.rfl) (fun _ _ => ⟨_, rfl⟩) fun _ _ => ⟨_, rfl⟩

/-! ### Moves -/

/-- A rule that answers reads no trace: on a state with another trace it answers the same, up to the trace. -/
def AnswersTraceBlind (f : State → Host.Outcome State Fault Refusal) : Prop :=
  ∀ (s : State) (l : List Rec), ∃ (t : State) (l' : List Rec),
    f s = .next t ∧ f (s.withTrace l) = .next (t.withTrace l')

theorem TraceBlind.answers {f : State → State} (hf : TraceBlind f) :
    AnswersTraceBlind fun s => .next (f s) := fun s l => by
  obtain ⟨l', hl'⟩ := hf s l
  exact ⟨f s, l', rfl, congrArg _ hl'⟩

theorem AnswersTraceBlind.ite {p : State → Prop} {_ : DecidablePred p}
    {f g : State → Host.Outcome State Fault Refusal} (hp : ∀ (s : State) (l : List Rec), p (s.withTrace l) ↔ p s)
    (hf : AnswersTraceBlind f) (hg : AnswersTraceBlind g) :
    AnswersTraceBlind fun s => if p s then f s else g s := fun s l => by
  simp only [hp]
  split
  · exact hf s l
  · exact hg s l

theorem legalIn_withTrace (i : Instr) (s : State) (l : List Rec) : legalIn i (s.withTrace l) ↔ legalIn i s := by
  cases i <;> exact Iff.rfl

theorem answersTraceBlind_exec (i : Instr) : AnswersTraceBlind (exec i) := fun s l => by
  by_cases hlegal : legalIn i s
  · obtain ⟨l', hl'⟩ := traceBlind_legalEffect i s l
    exact ⟨_, l', exec_of_legal hlegal, by rw [exec_of_legal ((legalIn_withTrace i s l).mpr hlegal), hl']⟩
  · exact ⟨_, _, exec_illegal hlegal, exec_illegal (mt (legalIn_withTrace i s l).mp hlegal)⟩

theorem answersTraceBlind_command (w : Word) : AnswersTraceBlind (command w) := fun s l => by
  cases hdecode : decode w with
  | ok i =>
    rw [command_ok hdecode, command_ok hdecode]
    exact answersTraceBlind_exec i { s with cmd := w } l
  | error e => exact ⟨_, _, command_error hdecode s, command_error hdecode _⟩

theorem answersTraceBlind_hostMove (a : HostAct) : AnswersTraceBlind (hostMove a) := by
  cases a with
  | portRead width off => exact TraceBlind.answers (.ite (fun _ _ => Iff.rfl) (traceBlind_regRead _) traceBlind_id)
  | portWrite width off w =>
    refine .ite (fun _ _ => Iff.rfl) (fun s l => ?_) traceBlind_id.answers
    by_cases hreg : portReg width off = .cmd
    · simp only [portWrite, if_pos hreg]
      exact answersTraceBlind_command w s l
    · simp only [portWrite, if_neg hreg]
      exact (traceBlind_regWrite _ w).answers s l
  | cbDone => exact TraceBlind.answers (.ite (fun _ _ => Iff.rfl) (fun _ _ => ⟨_, rfl⟩) traceBlind_id)
  | memStore a v => exact TraceBlind.answers fun _ _ => ⟨_, rfl⟩

theorem traceBlind_seqMove : TraceBlind seqMove := fun s l => by
  by_cases hwait : s.clken = false ∨ s.cbw = true
  · rw [seqMove_waiting hwait, seqMove_waiting (s := s.withTrace l) hwait]
    exact ⟨l, rfl⟩
  · rw [not_or, Bool.not_eq_false, Bool.not_eq_true] at hwait
    rw [seqMove_running hwait.1 hwait.2, seqMove_running (s := s.withTrace l) hwait.1 hwait.2]
    cases hmode : s.seqMode <;> simp only [State.withTrace_keeps, hmode]
    case idle => exact ⟨l, rfl⟩
    case blk => exact traceBlind_blockingStep s l
    case ev | er => exact traceBlind_dispatcherStep s l

theorem answersTraceBlind_perform (m : Move) : AnswersTraceBlind (perform m) := by
  cases m with
  | host a => exact answersTraceBlind_hostMove a
  | seq => exact traceBlind_seqMove.answers
  | wire e =>
    have henabled (s : State) (l : List Rec) : wireEnabled e (s.withTrace l) ↔ wireEnabled e s := by
      cases e <;> exact Iff.rfl
    exact TraceBlind.answers (.ite henabled (traceBlind_wireEffect e) traceBlind_id)
  | pulse l =>
    exact AnswersTraceBlind.ite (fun _ _ => Iff.rfl) (answersTraceBlind_exec l.instr) traceBlind_id.answers
  | reset => exact TraceBlind.answers fun _ _ => ⟨_, rfl⟩

/-- Settles O59: the move that a step performs reads no trace (`answersTraceBlind_perform`). -/
theorem traceIsReadByNoRule : Obligations.TraceIsReadByNoRule := by
  intro s l
  obtain ⟨t, l', hstep, hstep'⟩ := answersTraceBlind_perform (nextMove s) (takeMove s) l
  have htake : takeMove (s.withTrace l) = (takeMove s).withTrace l := by
    cases hschedule : s.schedule <;> simp only [takeMove, State.withTrace_keeps, hschedule] <;> rfl
  refine ⟨t, t.withTrace l', hstep, ?_, rfl⟩
  rw [← htake] at hstep'
  exact hstep'

end Sys2Proof.Machine

/-! Buffer memory along the steps of the machine (20_memory.md section 1). -/

namespace Sys2Proof.Machine

theorem blockingStep_mem {s : State} (h9 : s.bpc ≠ .v9) (h13 : s.bpc ≠ .v13) : (blockingStep s).mem = s.mem := by
  unfold blockingStep
  cases hpos : s.bpc
  case v9 => exact absurd hpos h9
  case v13 => exact absurd hpos h13
  case t1 | t3 | t5 | t7 | v2 | v4 | v8 | v11 | v12 => dsimp only; split_ifs <;> rfl
  all_goals
    simp [startReqOp, ackEnOp, ackDisOp, finishBlocking, sendUnit, addrWOp, addrROp, clearAddrOp_eq, stopUnless_eq,
      memRead]

/-- V9 and V13 store `DR` at `W_CUR` (42_blocking_engine.md R204). -/
theorem blockingStep_mem_of_store {s : State} (hpos : s.bpc = .v9 ∨ s.bpc = .v13) :
    (blockingStep s).mem = (s.memPut s.wCur s.dr).mem := by
  rcases hpos with hpos | hpos <;> simp [blockingStep, hpos, recvUnit, memWrite_drRead_eq, finishBlocking]

theorem dispatcherStep_mem {s : State} (h : s.dpc ≠ .e4s2) : (dispatcherStep s).mem = s.mem := by
  unfold dispatcherStep
  cases hpos : s.dpc
  case e4s2 => exact absurd hpos h
  case err f sub => cases sub <;> simp [callback_eq]
  all_goals
    simp [clearAddrOp_eq, stopUnless_eq, closeOp, callback_eq, clearStopfOp, ite_ackDisOp_eq, loadUnit, memRead,
      exitDispatcher]

/-- E4.2 stores `DR` at `CURSOR` (44_dispatcher.md R253). -/
theorem dispatcherStep_mem_of_store {s : State} (hpos : s.dpc = .e4s2) :
    (dispatcherStep s).mem = (s.memPut s.cursor s.dr).mem := by
  simp [dispatcherStep, hpos, storeUnit, memWrite_drRead_eq]

/-- `m` is a move that stores `v` at `a`: a receive step, E4.2, or HOST's own store. -/
def StoresUnit (s : State) (m : Move) (a : Word) (v : Byte) : Prop :=
  (m = .seq ∧ s.seqMode = .blk ∧ (s.bpc = .v9 ∨ s.bpc = .v13) ∧ a = s.wCur ∧ v = s.dr) ∨
  (m = .seq ∧ s.dpc = .e4s2 ∧ a = s.cursor ∧ v = s.dr) ∨ m = .host (.memStore a v)

/-- A move leaves memory as it is, or stores one unit. -/
theorem mem_of_moved {s t : State} {m : Move} (h : Moved s m t) :
    t.mem = s.mem ∨ ∃ (a : Word) (v : Byte), StoresUnit s m a v ∧ t.mem = (s.memPut a v).mem := by
  cases h with
  | memStore a v => exact .inr ⟨a, v, .inr (.inr rfl), rfl⟩
  | blocking _ hmode =>
    by_cases hpos : s.bpc = .v9 ∨ s.bpc = .v13
    · exact .inr ⟨_, _, .inl ⟨rfl, hmode, hpos, rfl, rfl⟩, blockingStep_mem_of_store hpos⟩
    · exact .inl (blockingStep_mem (fun h => hpos (.inl h)) fun h => hpos (.inr h))
  | dispatcher =>
    by_cases hpos : s.dpc = .e4s2
    · exact .inr ⟨_, _, .inr (.inl ⟨rfl, hpos, rfl, rfl⟩), dispatcherStep_mem_of_store hpos⟩
    · exact .inl (dispatcherStep_mem hpos)
  | portRead => exact .inl (by rw [regRead_frame rfl])
  | portWrite => exact .inl (by rw [regWrite_frame rfl])
  | operation => exact .inl (by rw [legalEffect_frame rfl])
  | wire => exact .inl (by rw [wireEffect_frame rfl])
  | blocked | illegalWord | cbDone | entered | illegalPulse | reset => exact .inl rfl

/-- Settles O55: storing one unit keeps the canonical form (`Memory.wf_set`), and no move does more. -/
theorem everyStepKeepsMemoryCanonical : Obligations.EveryStepKeepsMemoryCanonical := by
  intro s t hwf h
  obtain ⟨l, n, hmoved⟩ := moved_of_step h
  rcases mem_of_moved hmoved with hmem | ⟨a, v, -, hmem⟩ <;> rw [hmem]
  · exact hwf
  · exact Memory.wf_set s.mem a v hwf

/-- Settles O56: a step that changes a unit stores one (`mem_of_moved`), and `memAt_memPut` says where. -/
theorem memoryChangesOnlyAtTheCursor : Obligations.MemoryChangesOnlyAtTheCursor := by
  refine ⟨fun s a v hwf => ⟨s.memPut a v, rfl, ?_, fun b hb => ?_, rfl⟩, fun s t hwf h a hchange => ?_⟩
  · simp [State.memAt_memPut s a a v hwf]
  · simp [State.memAt_memPut s a b v hwf, hb.symm]
  · obtain ⟨l, n, hmoved⟩ := moved_of_step h
    rcases mem_of_moved hmoved with hmem | ⟨b, v, hstores, hmem⟩
    · exact absurd (sameMemory_of_mem_eq hmem a) hchange
    · have hget : t.memAt a = if b = a then v else s.memAt a := by
        rw [← State.memAt_memPut s b a v hwf, State.memAt, hmem]
        rfl
      obtain rfl : b = a := by
        by_contra hne
        exact hchange (by rw [hget, if_neg hne])
      rw [if_pos rfl] at hget
      rw [hget]
      rcases hstores with ⟨hm, hmode, hpos, ha, hv⟩ | ⟨hm, hpos, ha, hv⟩ | hm
      · exact .inl ⟨hm, hmode, hpos, ha, hv⟩
      · exact .inr (.inl ⟨hm, hpos, ha, hv⟩)
      · exact .inr (.inr ⟨v, hm, rfl⟩)

end Sys2Proof.Machine

/-! What a step can do to an error flag, to the session and to the configuration. -/

namespace Sys2Proof.Machine

/-! ### Error flags -/

theorem SameErrors.get {s t : State} (h : SameErrors s t) (f : ErrFlag) : f.get t = f.get s := by
  obtain ⟨hberr, harlo, haf, hovr, htimeout⟩ := sameErrors_iff.mp h
  cases f <;> assumption

theorem ErrFlag.get_put_of_ne {f g : ErrFlag} (h : f ≠ g) (v : Bool) (s : State) : f.get (g.put v s) = f.get s := by
  cases g <;> cases f <;> simp_all [ErrFlag.get, ErrFlag.put]

/-- The wire event `e` sets the error flag `f` (41_wire_engine.md R168, R170, R182, R184). -/
def WireEvent.setsError (e : WireEvent) (f : ErrFlag) : Prop :=
  e = .err f ∨ (f = .af ∧ (e = .addrResult .nack ∨ e = .txByte .nack)) ∨ (f = .arlo ∧ e = .arlo)

/-- An error flag changes in no other event, and in these is set. -/
theorem wireEffect_get (e : WireEvent) (f : ErrFlag) (s : State) :
    f.get (wireEffect e s) = f.get s ∨ (e.setsError f ∧ f.get (wireEffect e s) = true) := by
  cases e with
  | start | eStop => exact .inl (by cases f <;> rfl)
  | stop =>
    refine .inl (SameErrors.get ?_ f)
    simp only [wireEffect, wireStop, stopNow, doStop_eq]
    split <;> exact ⟨rfl, rfl, rfl, rfl, rfl⟩
  | addrResult a =>
    cases a with
    | nack => cases f <;> simp [ErrFlag.get, wireEffect, wireAddrResult, WireEvent.setsError]
    | ack =>
      refine .inl (SameErrors.get ?_ f)
      simp only [wireEffect, wireAddrResult]
      split <;> exact ⟨rfl, rfl, rfl, rfl, rfl⟩
  | txByte a =>
    cases a with
    | nack => cases f <;> simp [ErrFlag.get, wireEffect, wireTxByte, WireEvent.setsError]
    | ack =>
      refine .inl (SameErrors.get ?_ f)
      simp only [wireEffect, wireTxByte, stopNow, doStop_eq]
      split_ifs <;> exact ⟨rfl, rfl, rfl, rfl, rfl⟩
  | rxByte b =>
    refine .inl (SameErrors.get ?_ f)
    rw [sameErrors_iff, wireEffect, wireRxByte_eq, stopNow, doStop_eq, restartNow, doStart]
    split_ifs <;> simp
  | eAddress a7 rw =>
    refine .inl (SameErrors.get ?_ f)
    simp only [wireEffect, wireEAddress]
    split <;> exact ⟨rfl, rfl, rfl, rfl, rfl⟩
  | arlo => cases f <;> simp [ErrFlag.get, wireEffect, wireArlo, WireEvent.setsError]
  | err g =>
    by_cases hfg : f = g
    · subst hfg
      exact .inr ⟨.inl rfl, by cases f <;> rfl⟩
    · have hkeep : f.get (wireEffect (.err g) s) = f.get (g.put true s) := by cases f <;> rfl
      exact .inl (hkeep.trans (ErrFlag.get_put_of_ne hfg true s))

/-- The dispatchers clear an error flag in its own check, and do nothing else to it (44_dispatcher.md R257). -/
theorem dispatcherStep_get (f : ErrFlag) (s : State) :
    f.get (dispatcherStep s) = f.get s ∨ (s.dpc = .err f .clear ∧ f.get (dispatcherStep s) = false) := by
  cases hpos : s.dpc
  case err g sub =>
    cases sub <;> simp only [dispatcherStep, hpos, callback_eq]
    case clear =>
      by_cases hfg : f = g
      · subst hfg
        exact .inr ⟨rfl, by cases f <;> rfl⟩
      · refine .inl (Eq.trans ?_ (ErrFlag.get_put_of_ne hfg false s))
        cases f <;> rfl
    all_goals exact .inl (by cases f <;> rfl)
  all_goals
    refine .inl (SameErrors.get (sameErrors_iff.mpr ?_) f)
    simp [dispatcherStep, hpos, clearAddrOp_eq, stopUnless_eq, closeOp, callback_eq, clearStopfOp, ite_ackDisOp_eq,
      storeUnit, memWrite_drRead_eq, loadUnit, memRead, exitDispatcher]

theorem portReg_eq_sr1 {width : PortWidth} {off : Offset} (h : portReg width off = .sr1) :
    width = .word ∧ off = 0x14 := by
  cases width with
  | other => cases h
  | word => exact ⟨rfl, by revert off; decide⟩

/-- A port write clears an error flag by a 0 in its bit of `SR1`, and does nothing else to it (20_memory.md R79). -/
theorem regWrite_get (r : Reg) (w : Word) (f : ErrFlag) (s : State) :
    f.get (regWrite r w s) = f.get s ∨
      (r = .sr1 ∧ w.getLsbD (errBit f) = false ∧ f.get (regWrite r w s) = false) := by
  by_cases hen : s.clken = true ∨ r = .clken
  swap
  · rw [regWrite, if_neg hen]; exact .inl rfl
  rw [regWrite, if_pos hen]
  by_cases hr : r = .sr1
  · subst hr
    cases hbit : w.getLsbD (errBit f)
    · refine .inr ⟨rfl, rfl, ?_⟩
      cases f <;> simp_all [regWriteEffect, writeSr1, ErrFlag.get, errBit]
    · left
      cases f <;> simp_all [regWriteEffect, writeSr1, ErrFlag.get, errBit]
  · refine .inl (SameErrors.get ?_ f)
    cases r with
    | sr1 => exact absurd rfl hr
    | dr => simp [sameErrors_iff, regWriteEffect]
    | ctrl => rw [regWriteEffect, writeCtrl_eq]; exact ⟨rfl, rfl, rfl, rfl, rfl⟩
    | oar | cfg => simp only [regWriteEffect]; split <;> exact ⟨rfl, rfl, rfl, rfl, rfl⟩
    | clken => simp only [regWriteEffect, writeClken]; split_ifs <;> exact ⟨rfl, rfl, rfl, rfl, rfl⟩
    | ien | sr2 | sesRole | sesCursor | sesRemain | sesTarget | opBuf | opLen | cmd | result | reserved =>
      exact ⟨rfl, rfl, rfl, rfl, rfl⟩

/-- Who changes an error flag, and to what. -/
theorem get_of_moved {s t : State} {m : Move} (h : Moved s m t) (f : ErrFlag) :
    f.get t = f.get s ∨ (f.get t = true ∧ ∃ e : WireEvent, m = .wire e ∧ e.setsError f) ∨
      (f.get t = false ∧ (m = .reset ∨ (m = .seq ∧ s.dpc = .err f .clear) ∨
        ∃ w : Word, m = .host (.portWrite .word 0x14 w) ∧ w.getLsbD (errBit f) = false)) := by
  cases h with
  | wire e =>
    rcases wireEffect_get e f s with hkeep | ⟨hsets, hset⟩
    · exact .inl hkeep
    · exact .inr (.inl ⟨hset, e, rfl, hsets⟩)
  | reset => exact .inr (.inr ⟨by cases f <;> rfl, .inl rfl⟩)
  | dispatcher =>
    rcases dispatcherStep_get f s with hkeep | ⟨hpos, hclear⟩
    · exact .inl hkeep
    · exact .inr (.inr ⟨hclear, .inr (.inl ⟨rfl, hpos⟩)⟩)
  | portWrite width off w =>
    rcases regWrite_get (portReg width off) w f s with hkeep | ⟨hreg, hbit, hclear⟩
    · exact .inl hkeep
    · obtain ⟨rfl, rfl⟩ := portReg_eq_sr1 hreg
      exact .inr (.inr ⟨hclear, .inr (.inr ⟨w, rfl, hbit⟩)⟩)
  | portRead => exact .inl (by rw [regRead_frame rfl]; cases f <;> rfl)
  | operation => exact .inl (by rw [legalEffect_frame rfl]; cases f <;> rfl)
  | blocking => exact .inl (by rw [blockingStep_frame rfl]; cases f <;> rfl)
  | blocked | illegalWord | cbDone | memStore | entered | illegalPulse => exact .inl (by cases f <;> rfl)

/-- Settles O58: the changes of an error flag by each kind of move (`get_of_moved`). -/
theorem errorFlagsChangeOnlyByRule : Obligations.ErrorFlagsChangeOnlyByRule := by
  intro s t f h
  obtain ⟨l, n, hmoved⟩ := moved_of_step h
  have hwho := get_of_moved hmoved f
  have htaken : f.get { s with schedule := l, tick := n } = f.get s := by cases f <;> rfl
  rw [htaken] at hwho
  refine ⟨fun hs ht => ?_, fun hs ht => ?_⟩
  · rcases hwho with hkeep | ⟨-, e, hm, hsets⟩ | ⟨hclear, -⟩
    · simp [hs, ht] at hkeep
    · rw [hm]
      rcases hsets with rfl | ⟨hf, rfl | rfl⟩ | ⟨hf, rfl⟩
      · exact .inl rfl
      · exact .inr (.inl ⟨hf, .inl rfl⟩)
      · exact .inr (.inl ⟨hf, .inr rfl⟩)
      · exact .inr (.inr ⟨hf, rfl⟩)
    · simp [ht] at hclear
  · rcases hwho with hkeep | ⟨hset, -⟩ | ⟨-, hwho⟩
    · simp [hs, ht] at hkeep
    · simp [ht] at hset
    · exact hwho

/-! ### The session -/

/-- `CLOSE` (44_dispatcher.md R250, R253). -/
def DStep.closes (d : DStep) : Prop := d = .e2s2 ∨ d = .e4s4

/-- A unit of the session is transferred (44_dispatcher.md R253, R255). -/
def DStep.transfersUnit (d : DStep) : Prop := d = .e4s2 ∨ d = .e5master

theorem dispatcherStep_session {s : State} (hclose : ¬ s.dpc.closes) :
    (dispatcherStep s).role = s.role ∧ (dispatcherStep s).taddr = s.taddr ∧ (dispatcherStep s).rs = s.rs ∧
      (¬ s.dpc.transfersUnit → (dispatcherStep s).cursor = s.cursor ∧ (dispatcherStep s).remain = s.remain) := by
  cases hpos : s.dpc
  case e2s2 => exact absurd (.inl hpos) hclose
  case e4s4 => exact absurd (.inr hpos) hclose
  case err f sub => cases sub <;> simp [dispatcherStep, hpos, callback_eq]
  all_goals
    simp [dispatcherStep, hpos, clearAddrOp_eq, stopUnless_eq, callback_eq, clearStopfOp, ite_ackDisOp_eq,
      storeUnit, memWrite_drRead_eq, loadUnit, memRead, exitDispatcher, DStep.transfersUnit]

theorem dispatcherStep_role_of_closes {s : State} (hclose : s.dpc.closes) : (dispatcherStep s).role = .ready := by
  rw [dispatcherStep_of_close hclose]
  rfl

/-- An operation writes the session only by arming it, and only where it is ready (43_async_engine.md R221, R222). -/
theorem legalEffect_session {i : Instr} {s : State} (h : armsSession i = false ∨ s.role ≠ .ready) :
    SameSession s (legalEffect i s) := by
  rw [sameSession_iff]
  cases hdata : touchesData i
  swap
  · rw [legalEffect_frame_of_touchesData hdata rfl]; simp
  cases hseq : startsSeq i
  swap
  · rw [legalEffect_frame_of_startsSeq hseq rfl]; simp
  cases harm : armsSession i
  · rw [legalEffect_frame_of_control hdata harm hseq rfl]; simp
  · have hbusy : s.role ≠ .ready := h.resolve_left (by simp [harm])
    cases i <;> simp only [armsSession, Bool.false_eq_true] at harm <;> simp [legalEffect, arming_of_busy hbusy]

/-- Who changes the session. -/
theorem session_of_moved {s t : State} {m : Move} (h : Moved s m t) :
    SameSession s t ∨
      (s.role = .ready ∧ ∃ (w : Word) (i : Instr), m = cmdMove w ∧ decode w = .ok i ∧ armsSession i = true) ∨
      (t.role = .ready ∧ (m = .reset ∨ (m = .seq ∧ s.dpc.closes))) ∨
      (m = .seq ∧ s.dpc.transfersUnit ∧ t.role = s.role ∧ t.taddr = s.taddr ∧ t.rs = s.rs) := by
  cases h with
  | dispatcher =>
    by_cases hclose : s.dpc.closes
    · exact .inr (.inr (.inl ⟨dispatcherStep_role_of_closes hclose, .inr ⟨rfl, hclose⟩⟩))
    · obtain ⟨hrole, htaddr, hrs, hunit⟩ := dispatcherStep_session hclose
      by_cases hpos : s.dpc.transfersUnit
      · exact .inr (.inr (.inr ⟨rfl, hpos, hrole, htaddr, hrs⟩))
      · obtain ⟨hcursor, hremain⟩ := hunit hpos
        exact .inl ⟨hrole, hcursor, hremain, htaddr, hrs⟩
  | operation w i hready hdecode =>
    by_cases harm : armsSession i = true ∧ s.role = .ready
    · exact .inr (.inl ⟨harm.2, w, i, rfl, hdecode, harm.1⟩)
    · rw [not_and_or, Bool.not_eq_true] at harm
      obtain ⟨hrole, hcursor, hremain, htaddr, hrs⟩ := legalEffect_session (s := { s with cmd := w }) harm
      exact .inl ⟨hrole, hcursor, hremain, htaddr, hrs⟩
  | reset => exact .inr (.inr (.inl ⟨rfl, .inl rfl⟩))
  | portRead => exact .inl (by rw [regRead_frame rfl]; exact ⟨rfl, rfl, rfl, rfl, rfl⟩)
  | portWrite => exact .inl (by rw [regWrite_frame rfl]; exact ⟨rfl, rfl, rfl, rfl, rfl⟩)
  | blocking => exact .inl (by rw [blockingStep_frame rfl]; exact ⟨rfl, rfl, rfl, rfl, rfl⟩)
  | wire => exact .inl (by rw [wireEffect_frame rfl]; exact ⟨rfl, rfl, rfl, rfl, rfl⟩)
  | blocked | illegalWord | cbDone | memStore | entered | illegalPulse => exact .inl ⟨rfl, rfl, rfl, rfl, rfl⟩

theorem exec_arming_of_busy {i : Instr} {s t : State} (harm : armsSession i = true) (hbusy : s.role ≠ .ready)
    (h : exec i s = .next t) : { t with resVal := s.resVal, resSt := s.resSt, trace := s.trace } = s := by
  rcases exec_eq_next h with ⟨-, rfl⟩ | ⟨-, rfl⟩
  · cases i <;> simp only [armsSession, Bool.false_eq_true] at harm <;> simp only [legalEffect, arming_of_busy hbusy]
  · rfl

/-- Settles O57: the four kinds of change of the session (`session_of_moved`), and a rejected request's equation. -/
theorem sessionHoldsOneTransferAtATime : Obligations.SessionHoldsOneTransferAtATime := by
  refine ⟨fun s t h => ?_, fun i s t => exec_arming_of_busy⟩
  obtain ⟨l, n, hmoved⟩ := moved_of_step h
  have hwho := session_of_moved hmoved
  dsimp only at hwho
  rcases hwho with ⟨hrole, hcursor, hremain, htaddr, hrs⟩ | ⟨hready, harm⟩ | ⟨hready, hclose⟩ |
    ⟨hm, hpos, hrole, htaddr, hrs⟩
  · dsimp only at hrole hcursor hremain htaddr hrs
    refine ⟨fun hready hbusy => absurd (hrole.trans hready) hbusy,
      fun hbusy hready => absurd (hrole.symm.trans hready) hbusy, fun _ _ => ⟨hrole, htaddr, hrs, fun hne => ?_⟩⟩
    rcases hne with hne | hne
    · exact absurd hcursor hne
    · exact absurd hremain hne
  · exact ⟨fun _ _ => harm, fun hbusy => absurd hready hbusy, fun hbusy => absurd hready hbusy⟩
  · exact ⟨fun _ hbusy => absurd hready hbusy, fun _ _ => hclose, fun _ hbusy => absurd hready hbusy⟩
  · exact ⟨fun hready hbusy => absurd (hrole.trans hready) hbusy,
      fun hbusy hready => absurd (hrole.symm.trans hready) hbusy, fun _ _ => ⟨hrole, htaddr, hrs, fun _ => ⟨hm, hpos⟩⟩⟩

/-! ### The configuration -/

theorem regWrite_config {r : Reg} {w : Word} {s : State} (hpe : s.pe = true) : SameConfig s (regWrite r w s) := by
  by_cases hen : s.clken = true ∨ r = .clken
  swap
  · rw [regWrite, if_neg hen]; exact ⟨rfl, rfl, rfl⟩
  rw [regWrite, if_pos hen]
  cases r with
  | oar | cfg => rw [regWriteEffect, if_pos hpe]; exact ⟨rfl, rfl, rfl⟩
  | dr => simp [sameConfig_iff, regWriteEffect]
  | ctrl => rw [regWriteEffect, writeCtrl_eq]; exact ⟨rfl, rfl, rfl⟩
  | clken => simp only [regWriteEffect, writeClken]; split_ifs <;> exact ⟨rfl, rfl, rfl⟩
  | ien | sr1 | sr2 | sesRole | sesCursor | sesRemain | sesTarget | opBuf | opLen | cmd | result | reserved =>
    exact ⟨rfl, rfl, rfl⟩

theorem legalEffect_config {i : Instr} {s : State} (hpe : s.pe = true) (hlegal : legalIn i s) :
    SameConfig s (legalEffect i s) := by
  rw [sameConfig_iff]
  cases hdata : touchesData i
  swap
  · rw [legalEffect_frame_of_touchesData hdata rfl]; simp
  cases hseq : startsSeq i
  swap
  · rw [legalEffect_frame_of_startsSeq hseq rfl]; simp
  cases harm : armsSession i
  swap
  · rw [legalEffect_frame_of_armsSession harm rfl]; simp
  cases i <;> simp only [touchesData, startsSeq, armsSession, Bool.true_eq_false] at hdata hseq harm
  case init =>
    obtain ⟨-, hoff, -⟩ := hlegal
    simp [hpe] at hoff
  all_goals simp

theorem config_of_moved {s t : State} {m : Move} (h : Moved s m t) (hm : m ≠ .reset) (hpe : s.pe = true) :
    SameConfig s t := by
  cases h with
  | reset => exact absurd rfl hm
  | portWrite => exact regWrite_config hpe
  | operation w i _ _ hlegal =>
    have hlegal' : legalIn i { s with cmd := w } := by cases i <;> exact hlegal
    obtain ⟨hfs, hduty, hown⟩ := legalEffect_config (s := { s with cmd := w }) hpe hlegal'
    exact ⟨hfs, hduty, hown⟩
  | portRead => rw [regRead_frame rfl]; exact ⟨rfl, rfl, rfl⟩
  | blocking => rw [blockingStep_frame rfl]; exact ⟨rfl, rfl, rfl⟩
  | dispatcher => rw [dispatcherStep_frame rfl]; exact ⟨rfl, rfl, rfl⟩
  | wire => rw [wireEffect_frame rfl]; exact ⟨rfl, rfl, rfl⟩
  | blocked | illegalWord | cbDone | memStore | entered | illegalPulse => exact ⟨rfl, rfl, rfl⟩

/-- Settles O49: no move but reset changes the configuration while `PE` = 1 (`config_of_moved`); with `PE` = 0 the two
port writes do. -/
theorem configurationIsReadOnlyWhileEnabled : Obligations.ConfigurationIsReadOnlyWhileEnabled := by
  refine ⟨fun s t h hm hpe => ?_, fun s w hready hclk hpe => ⟨?_, ?_⟩⟩
  · obtain ⟨l, n, hmoved⟩ := moved_of_step h
    have hsame := config_of_moved hmoved hm hpe
    exact ⟨hsame.fs, hsame.duty, hsame.own⟩
  · have hrun := runs_portWrite_clocked hready hclk (off := 0x08) (by decide) w
    have hreg : regAt 0x08 = .oar := rfl
    rwa [hreg, regWriteEffect, if_neg (by simp [hpe])] at hrun
  · have hrun := runs_portWrite_clocked hready hclk (off := 0x0C) (by decide) w
    have hreg : regAt 0x0C = .cfg := rfl
    rwa [hreg, regWriteEffect, if_neg (by simp [hpe])] at hrun

end Sys2Proof.Machine

/-! What the sequencer's steps never do, and what they keep from the other agents. -/

namespace Sys2Proof.Machine

/-! ### Blocking operations -/

/-- Settles O36: the frame of a blocking step (`blockingStep_frame`), and it stores at V9 and V13 alone. -/
theorem blockingEngineNeverWritesTheSession : Obligations.BlockingEngineNeverWritesTheSession := by
  intro s t hmode h
  simp only [sameSession_iff, sameEnables_iff, sameConfig_iff, sameErrors_iff]
  cases moved_of_runs h with
  | blocked => exact ⟨by simp, by simp, by simp, by simp, ⟨rfl, rfl, rfl⟩, by simp⟩
  | dispatcher _ hdisp => simp [hmode] at hdisp
  | blocking =>
    have hmem := blockingStep_mem (s := s)
    rw [blockingStep_frame (s := s) rfl]
    refine ⟨by simp, by simp, by simp, by simp, ⟨rfl, rfl, rfl⟩, ?_⟩
    simpa using hmem

/-! ### Dispatchers -/

theorem dispatcherStep_sameErrors {s : State} (hpos : ∀ (f : ErrFlag) (sub : ErrSub), s.dpc ≠ .err f sub) :
    SameErrors s (dispatcherStep s) :=
  have hkeep (f : ErrFlag) : f.get (dispatcherStep s) = f.get s :=
    (dispatcherStep_get f s).resolve_right fun ⟨hclear, _⟩ => hpos f .clear hclear
  ⟨hkeep .berr, hkeep .arlo, hkeep .af, hkeep .ovr, hkeep .timeout⟩

theorem SeqInv.not_err_of_ev {s : State} (hs : SeqInv s) (hmode : s.seqMode = .ev) (f : ErrFlag) (sub : ErrSub) :
    s.dpc ≠ .err f sub := fun hpos => by
  have hev := hs.evPos hmode
  rw [hpos] at hev
  cases hev

theorem SeqInv.err_or_exit_of_er {s : State} (hs : SeqInv s) (hmode : s.seqMode = .er) :
    (∃ (f : ErrFlag) (sub : ErrSub), s.dpc = .err f sub) ∨ s.dpc = .exit := by
  have her := hs.erPos hmode
  cases hpos : s.dpc
  case err f sub => exact .inl ⟨f, sub, rfl⟩
  case exit => exact .inr rfl
  all_goals
    rw [hpos] at her
    cases her

/-- The error dispatcher writes error flags and the callback alone (44_dispatcher.md R257). -/
theorem dispatcherStep_frame_of_er {s t : State}
    (hpos : (∃ (f : ErrFlag) (sub : ErrSub), s.dpc = .err f sub) ∨ s.dpc = .exit)
    (h : dispatcherStep s = t) : t = { s with
      berr := t.berr, arlo := t.arlo, af := t.af, ovr := t.ovr, timeout := t.timeout, seqMode := t.seqMode,
      cbw := t.cbw, dpc := t.dpc, resVal := t.resVal, resSt := t.resSt, trace := t.trace, cbValid := t.cbValid,
      cbCode := t.cbCode } := by
  subst h
  rcases hpos with ⟨f, sub, hpos⟩ | hpos
  · cases sub <;> simp only [dispatcherStep, hpos]
    case clear => cases f <;> rfl
    case call => rw [callback_eq]
  · simp only [dispatcherStep, hpos, exitDispatcher, State.setResult]

theorem ErrFlag.nextCheck_ne (f : ErrFlag) (sub : ErrSub) : f.nextCheck ≠ .err f sub := by
  cases f <;> simp [ErrFlag.nextCheck]

/-- A dispatcher moves on in every step: it neither waits nor retries (44_dispatcher.md R247). -/
theorem dispatcherStep_movesOn (s : State) : (dispatcherStep s).dpc ≠ s.dpc ∨ (dispatcherStep s).seqMode = .idle := by
  cases hpos : s.dpc
  case exit => exact .inr (by simp [dispatcherStep, hpos, exitDispatcher])
  case err f sub =>
    left
    cases sub <;> simp only [dispatcherStep, hpos, callback_eq]
    case check =>
      split
      · simp
      · exact f.nextCheck_ne .check
    case clear => simp
    case call => exact f.nextCheck_ne .call
  case e2s3 | e3s2 | e4s5 | e4slave | e5slave => exact .inl (by simp [dispatcherStep, hpos, callback_eq])
  case e0 | e1 | e2 | e3 | e4 | e4s2 | e5 =>
    left
    simp only [dispatcherStep, hpos]
    split_ifs <;> simp
  all_goals exact .inl (by simp [dispatcherStep, hpos])

theorem dispatcherStep_ack {s : State} (h : (dispatcherStep s).ack = true) : s.ack = true := by
  unfold dispatcherStep at h
  split at h <;>
    simp_all [clearAddrOp_eq, stopUnless_eq, closeOp, callback_eq, clearStopfOp, ite_ackDisOp_eq, storeUnit,
      memWrite_drRead_eq, loadUnit, memRead, exitDispatcher]

/-- Settles O42: a dispatcher's step at the positions of its mode. -/
theorem dispatcherNeverExceedsItsRole : Obligations.DispatcherNeverExceedsItsRole := by
  intro s t hs hclk hcbw hmode h
  obtain rfl : dispatcherStep s = t := by
    rw [Runs, step_offer, perform, seqMove_running hclk hcbw] at h
    rcases hmode with hmode | hmode <;> simpa [hmode] using h
  refine ⟨dispatcherStep_movesOn s, fun hev => dispatcherStep_sameErrors (hs.not_err_of_ev hev), fun her => ?_, ?_,
    dispatcherStep_ack, fun hrole => ?_⟩
  · rw [dispatcherStep_frame_of_er (hs.err_or_exit_of_er her) rfl]
    simp
  · rw [dispatcherStep_frame rfl]
  · by_cases hclose : s.dpc.closes
    · exact ⟨dispatcherStep_role_of_closes hclose, hclose⟩
    · exact absurd (dispatcherStep_session hclose).1 hrole

/-! ### No nesting -/

theorem runs_pulse_of_busy {s : State} (hmode : s.seqMode ≠ .idle) (l : IrqLine) : Runs (.pulse l) s s := by
  rw [runs_iff, perform, pulseMove, if_neg hmode]

/-- A dispatcher's word is illegal where SEQ is not idle (60_exceptions.md R302). -/
theorem runs_dispatchWord_of_callback {s : State} (hcbw : s.cbw = true) (hmode : s.seqMode ≠ .idle) (l : IrqLine) :
    Runs (cmdMove (encode l.instr)) s ({ s with cmd := encode l.instr }.afterIllegal (encode l.instr)) := by
  have hdecode : decode (encode l.instr) = .ok l.instr := decode_eq_ok_iff.mpr rfl
  rw [Runs, step_offer_cmdMove (.inr hcbw) hdecode]
  exact exec_illegal (by cases l <;> exact fun ⟨hidle, _⟩ => hmode hidle)

/-- Settles O43: pulses and words while SEQ is busy, the frames of the dispatchers' steps, and the entry after an
exit. -/
theorem noDispatcherIsEnteredWhileOneRuns : Obligations.NoDispatcherIsEnteredWhileOneRuns := by
  refine ⟨fun s hmode => ?_, fun s t hs hmode h => ?_⟩
  · have hbusy : s.seqMode ≠ .idle := by rcases hmode with h | h <;> simp [h]
    refine ⟨runs_pulse_of_busy hbusy, fun hcbw => ?_, fun hcbw => ?_⟩
    · exact ⟨runs_dispatchWord_of_callback hcbw hbusy .ev, runs_dispatchWord_of_callback hcbw hbusy .er⟩
    · have hready : ¬ s.hostReady := by simp [State.hostReady, hbusy, hcbw]
      exact ⟨runs_cmdMove_blocked hready _, runs_cmdMove_blocked hready _⟩
  · refine ⟨fun hev => ?_, fun her => ?_, fun hidle hclk =>
      ⟨runs_pulse_of_idle hidle hclk .ev, runs_pulse_of_idle hidle hclk .er⟩⟩
    · cases moved_of_runs h with
      | blocked => exact ⟨rfl, rfl, rfl, rfl, rfl⟩
      | blocking _ hblk => simp [hev] at hblk
      | dispatcher => exact dispatcherStep_sameErrors (hs.not_err_of_ev hev)
    · cases moved_of_runs h with
      | blocked => simp
      | blocking _ hblk => simp [her] at hblk
      | dispatcher =>
        rw [dispatcherStep_frame_of_er (hs.err_or_exit_of_er her) rfl]
        simp

/-! ### A blocking operation holds HOST -/

theorem blockingStep_of_spinning {s : State} (h : s.spinning) : blockingStep s = s := by
  obtain ⟨-, hspin⟩ := h
  cases hpos : s.bpc <;> simp only [hpos] at hspin
  case t1 | v2 => simp [blockingStep, hpos, hspin]
  case t3 | v4 | t7 | v8 =>
    simp only [blockingStep, hpos]
    exact if_neg fun hpass => by simp_all
  case t5 | v11 =>
    obtain ⟨hlen, hspin⟩ := hspin
    simp only [blockingStep, hpos, if_neg hlen]
    exact if_neg fun hpass => by simp_all

/-- No wire event writes the sequencer but for `wFailed`. -/
theorem atTransferSpin_wireEffect {s : State} (h : s.atTransferSpin) (e : WireEvent) :
    (wireEffect e s).atTransferSpin := by
  rw [wireEffect_frame (e := e) (s := s) rfl]
  exact h

theorem wFailed_wireEffect {s : State} (h : s.wFailed = true) (e : WireEvent) : (wireEffect e s).wFailed = true := by
  cases e with
  | start | eStop => exact h
  | arlo => rfl
  | err f => cases f <;> exact h
  | stop =>
    simp only [wireEffect, wireStop, stopNow, doStop_eq]
    split <;> exact h
  | addrResult a =>
    cases a with
    | nack => rfl
    | ack =>
      simp only [wireEffect, wireAddrResult]
      split <;> exact h
  | txByte a =>
    cases a with
    | nack => simp [wireEffect, wireTxByte, h]
    | ack =>
      simp only [wireEffect, wireTxByte, stopNow, doStop_eq]
      split_ifs <;> exact h
  | rxByte b =>
    rw [wireEffect, wireRxByte_eq, stopNow, doStop_eq, restartNow, doStart]
    split_ifs <;> simp [h]
  | eAddress a7 rw =>
    simp only [wireEffect, wireEAddress]
    split <;> exact h

/-- A hung operation stays hung (42_blocking_engine.md R205, log 22). -/
theorem hung_of_moved {s t : State} {m : Move} (hs : s.hung) (h : Moved s m t) (hm : m ≠ .reset) : t.hung := by
  have hready := not_hostReady_of_hung hs
  obtain ⟨hspin, hfailed⟩ := hs
  have hspin' := hspin
  obtain ⟨hmode, hcbw, -⟩ := hspin'
  cases h with
  | blocked | memStore | illegalPulse => exact ⟨hspin, hfailed⟩
  | portRead _ _ hhost => exact absurd hhost hready
  | portWrite _ _ _ hhost => exact absurd hhost hready
  | operation _ _ hhost => exact absurd hhost hready
  | illegalWord _ hhost => exact absurd hhost hready
  | cbDone hwait => simp [hcbw] at hwait
  | blocking => rw [blockingStep_hung ⟨hspin, hfailed⟩]; exact ⟨hspin, hfailed⟩
  | dispatcher _ hdisp => simp [hmode] at hdisp
  | wire e => exact ⟨atTransferSpin_wireEffect hspin e, wFailed_wireEffect hfailed e⟩
  | entered _ hidle => simp [hmode] at hidle
  | reset => exact absurd rfl hm

/-- A wire event that sets `wFailed` at a spin of the transfer leaves the operation hung. -/
theorem hung_of_runs_wire {s t : State} {e : WireEvent} (hspin : s.atTransferSpin) (hen : wireEnabled e s)
    (hfailed : (wireEffect e s).wFailed = true) (h : Runs (.wire e) s t) : t.hung := by
  obtain rfl : wireEffect e s = t := by rw [← (runs_wire_iff e s t).mp h, wireMove_enabled hen]
  exact ⟨atTransferSpin_wireEffect hspin e, hfailed⟩

/-- Settles O9: HOST and the pulses wait (`perform_host_blocked`), a false spin is a step without effect, the two
failures set `wFailed`, and a hung operation stays so (`hung_of_moved`). -/
theorem blockingOperationHoldsHost : Obligations.BlockingOperationHoldsHost := by
  refine ⟨fun s hmode hcbw => ?_, fun s t hclk hpe hspin => ⟨fun hphase => ?_, fun hphase hmsl haddr hshTx => ?_,
    fun hmsl hphase => ?_⟩, fun s t hs h hm => ?_⟩
  · have hready : ¬ s.hostReady := by simp [State.hostReady, hmode, hcbw]
    refine ⟨fun width off => (perform_host_blocked hready width off 0).1,
      fun width off w => (perform_host_blocked hready width off w).2,
      runs_pulse_of_busy (by simp [hmode]), fun hspins => ?_⟩
    rw [runs_iff, perform]
    by_cases hclk : s.clken = true
    · rw [seqMove_running hclk hcbw, hmode]
      exact congrArg _ (blockingStep_of_spinning hspins)
    · rw [seqMove_waiting (.inl (Bool.eq_false_iff.mpr hclk))]
  · exact hung_of_runs_wire hspin ⟨hclk, hpe, decide_eq_true hphase⟩ rfl
  · refine hung_of_runs_wire hspin ⟨hclk, hpe, decide_eq_true ⟨.inl hphase, haddr, hshTx⟩⟩ ?_
    simp [wireEffect, wireTxByte, hmsl]
  · exact hung_of_runs_wire hspin ⟨hclk, hpe, decide_eq_true ⟨hmsl, hphase⟩⟩ rfl
  · obtain ⟨l, n, hmoved⟩ := moved_of_step h
    have htaken : State.hung { s with schedule := l, tick := n } := hs
    exact hung_of_moved htaken hmoved hm

end Sys2Proof.Machine

/-! The exact effects of the wire events (41_wire_engine.md). -/

namespace Sys2Proof.Machine

/-! ### Start and stop -/

/-- Settles O25: the event's own guard is the premise. -/
theorem startConditionIsGenerated : Obligations.StartConditionIsGenerated :=
  fun _ hclk hpe hstart hstop hphase => runs_wire_enabled ⟨hclk, hpe, decide_eq_true ⟨hstart, hstop, hphase⟩⟩

/-- Settles O26: a master does `stopNow`, a block that is not master drops the request. -/
theorem stopConditionIsGenerated : Obligations.StopConditionIsGenerated := by
  refine fun s hclk hpe hstop => ⟨fun hmsl hquiet => ?_, fun hmsl => ?_⟩
  · have hrun := runs_wire_enabled (e := .stop) ⟨hclk, hpe, decide_eq_true ⟨hstop, .inl ⟨hmsl, hquiet⟩⟩⟩
    rwa [wireEffect, wireStop, if_pos hmsl, stopNow, doStop_eq] at hrun
  · have hrun := runs_wire_enabled (e := .stop) ⟨hclk, hpe, decide_eq_true ⟨hstop, .inr hmsl⟩⟩
    rwa [wireEffect, wireStop, if_neg (by simp [hmsl])] at hrun

/-! ### Address and data phases of a master -/

/-- Settles O27: the direction bit decides between transmitter and receiver. -/
theorem addressPhaseIsAnswered : Obligations.AddressPhaseIsAnswered := by
  intro s hclk hpe hphase
  have hrun (a : Ack) := runs_wire_enabled (e := .addrResult a) ⟨hclk, hpe, decide_eq_true hphase⟩
  refine ⟨fun hwrite => ?_, fun hread => ?_, hrun .nack⟩
  · simpa only [wireEffect, wireAddrResult, State.log, hwrite, Bool.false_eq_true, if_false] using hrun .ack
  · simpa only [wireEffect, wireAddrResult, State.log, hread, if_true] using hrun .ack

/-- Settles O28: the four branches of an acknowledged unit, and the NACK. -/
theorem sentUnitIsAnswered : Obligations.SentUnitIsAnswered := by
  intro s hclk hpe hphase haddr hshTx
  have hrun (a : Ack) := runs_wire_enabled (e := .txByte a) ⟨hclk, hpe, decide_eq_true ⟨hphase, haddr, hshTx⟩⟩
  refine ⟨fun ⟨hmsl, hstop⟩ => ?_, fun hmsl hstop hstart => ?_, fun hother => ⟨fun htxe => ?_, fun htxe => ?_⟩,
    hrun .nack⟩
  · simpa [wireEffect, wireTxByte, hmsl, hstop, stopNow, doStop_eq, State.log] using hrun .ack
  · simpa [wireEffect, wireTxByte, hmsl, hstop, hstart, restartNow, doStart, State.log] using hrun .ack
  · rcases hother with hmsl | ⟨hstop, hstart⟩
    · simpa [wireEffect, wireTxByte, hmsl, htxe, State.log] using hrun .ack
    · simpa [wireEffect, wireTxByte, hstop, hstart, htxe, State.log] using hrun .ack
  · rcases hother with hmsl | ⟨hstop, hstart⟩
    · simpa [wireEffect, wireTxByte, hmsl, htxe, State.log] using hrun .ack
    · simpa [wireEffect, wireTxByte, hstop, hstart, htxe, State.log] using hrun .ack

/-- Settles O29: the unit is kept and answered (`received_eq`), then a request of the master is served
(`wireRxByte_eq`). -/
theorem receivedUnitIsKeptAndAnswered : Obligations.ReceivedUnitIsKeptAndAnswered := by
  intro s b hclk hpe hphase haddr hshRx hnacked
  have hrun := runs_wire_enabled (e := .rxByte b) ⟨hclk, hpe, decide_eq_true ⟨hphase, haddr, hshRx, hnacked⟩⟩
  rw [wireEffect, wireRxByte_eq] at hrun
  refine ⟨received b s, received_eq hshRx hnacked, fun hother => ?_, fun hmsl hstop => ?_,
    fun hmsl hstop hstart => ?_⟩
  · have hno (request : Bool) (h : s.msl = false ∨ request = false) : ¬ (s.msl = true ∧ request = true) := by
      rcases h with h | h <;> simp [h]
    rwa [if_neg (hno _ (hother.imp_right And.left)), if_neg (hno _ (hother.imp_right And.right))] at hrun
  · rw [if_pos ⟨hmsl, hstop⟩, stopNow, doStop_eq] at hrun
    simpa [State.log] using hrun
  · rw [if_neg (by simp [hstop]), if_pos ⟨hmsl, hstart⟩] at hrun
    exact hrun

/-! ### The slave role, and lost arbitration -/

/-- Settles O30: the address matcher's two answers, and the external stop with and without having been addressed. -/
theorem slaveRoleIsEnteredAndLeft : Obligations.SlaveRoleIsEnteredAndLeft := by
  refine fun s hclk hpe hmsl => ⟨fun hphase a7 rw => ?_, fun hphase => ?_, fun hphase => ?_⟩
  · have hrun := runs_wire_enabled (e := .eAddress a7 rw) ⟨hclk, hpe, decide_eq_true ⟨hmsl, hphase⟩⟩
    rw [wireEffect, wireEAddress] at hrun
    refine ⟨fun ⟨hown, hack⟩ => ?_, fun hother => ?_⟩
    · have hmatch : s.addrMatch a7 = true := by simp [State.addrMatch, hown, hack]
      simpa [hmatch, State.log] using hrun
    · have hmatch : s.addrMatch a7 = false := by rcases hother with h | h <;> simp [State.addrMatch, h]
      simpa [hmatch, State.log] using hrun
  · have hrun := runs_wire_enabled (e := .eStop) ⟨hclk, hpe, decide_eq_true ⟨hmsl, .inl hphase⟩⟩
    rwa [wireEffect, wireEStop, if_pos hphase] at hrun
  · have hrun := runs_wire_enabled (e := .eStop) ⟨hclk, hpe, decide_eq_true ⟨hmsl, .inr hphase⟩⟩
    have haddressed : s.phase ≠ .bOther := by rcases hphase with h | ⟨h, -⟩ <;> simp [h]
    rwa [wireEffect, wireEStop, if_neg haddressed] at hrun

/-- Settles O31: the event's own guard is the premise. -/
theorem lostArbitrationEndsTheMasterRole : Obligations.LostArbitrationEndsTheMasterRole :=
  fun _ hclk hpe hmsl hphase => runs_wire_enabled ⟨hclk, hpe, decide_eq_true ⟨hmsl, hphase⟩⟩

end Sys2Proof.Machine

/-! When a wire event cannot occur, and what the wire engine never writes, clears, generates or reads
(41_wire_engine.md). -/

namespace Sys2Proof.Machine

/-! ### Events that cannot occur -/

theorem runs_wire_disabled {e : WireEvent} {s : State} (h : ¬ wireEnabled e s) : Runs (.wire e) s s :=
  (runs_wire_iff e s s).mpr (wireMove_disabled h)

/-- An event whose own guard is false cannot occur (41_wire_engine.md R162). -/
theorem runs_wire_of_not_guard {e : WireEvent} {s : State} (h : wireGuard e s = false) : Runs (.wire e) s s :=
  runs_wire_disabled fun ⟨_, _, hguard⟩ => by simp [h] at hguard

/-- `Q` of R163, negated. -/
theorem not_quiescent {s : State} (h : s.phase ≠ .mSb ∧ s.phase ≠ .mHalt ∧ (s.phase ≠ .mTx ∨ s.shTx = true) ∧
    (s.phase ≠ .mRx ∨ (s.addr = false ∧ s.nacked = false ∧ s.shRx = false))) : ¬ s.quiescent := by
  obtain ⟨hsb, hhalt, htx, hrx⟩ := h
  rintro (hphase | hphase | ⟨hphase, hshTx⟩ | ⟨hphase, hheld⟩)
  · exact hsb hphase
  · exact hhalt hphase
  · simp_all
  · simp_all

theorem not_sRxFree {s : State} (h : s.phase ≠ .sRx ∨ s.addr = true ∨ s.shRx = true) : ¬ s.sRxFree := by
  rintro ⟨hphase, haddr, hshRx⟩
  simp_all

theorem not_startGuard {s : State} (h : s.start = false ∨ (s.stop = true ∧ s.msl = true) ∨
    (s.phase ≠ .idle ∧ (s.msl = false ∨ ¬ s.quiescent))) : ¬ startGuard s := by
  rintro ⟨hstart, hstop, hphase⟩
  rcases h with h | h | ⟨hidle, h⟩
  · simp [hstart] at h
  · exact hstop h
  · obtain ⟨hmsl, hquiet⟩ := hphase.resolve_left hidle
    exact h.elim (by simp [hmsl]) (absurd hquiet)

theorem not_stopGuard {s : State} (h : s.stop = false ∨ (s.msl = true ∧ ¬ s.quiescent)) : ¬ stopGuard s := by
  rintro ⟨hstop, hmaster⟩
  rcases h with h | ⟨hmsl, hquiet⟩
  · simp [hstop] at h
  · simp [hmsl, hquiet] at hmaster

/-- A unit is sent in a transmitter's data phase from a full shift register. -/
theorem not_txByteGuard {s : State} (h : (s.phase ≠ .mTx ∧ s.phase ≠ .sTx) ∨ s.addr = true ∨ s.shTx = false) :
    ¬ txByteGuard s := by
  rintro ⟨hphase, haddr, hshTx⟩
  rcases h with ⟨hmaster, hslave⟩ | h | h
  · exact hphase.elim hmaster hslave
  · simp [haddr] at h
  · simp [hshTx] at h

theorem not_rxByteGuard {s : State}
    (h : (s.phase ≠ .mRx ∧ s.phase ≠ .sRx) ∨ s.addr = true ∨ s.shRx = true ∨ s.nacked = true) : ¬ rxByteGuard s := by
  rintro ⟨hphase, haddr, hshRx, hnacked⟩
  rcases h with ⟨hmaster, hslave⟩ | h | h | h
  · exact hphase.elim hmaster hslave
  · simp [haddr] at h
  · simp [hshRx] at h
  · simp [hnacked] at h

theorem not_eAddressGuard {s : State} (h : s.msl = true ∨ (s.phase ≠ .idle ∧ s.phase ≠ .bOther ∧ s.phase ≠ .sEnd ∧
    ¬ s.sRxFree)) : ¬ eAddressGuard s := by
  rintro ⟨hmsl, hphase⟩
  rcases h with h | ⟨hidle, hother, hend, hfree⟩
  · simp [hmsl] at h
  · rcases hphase with hphase | hphase | hphase | hphase <;> contradiction

theorem not_eStopGuard {s : State} (h : s.msl = true ∨ (s.phase ≠ .bOther ∧ s.phase ≠ .sEnd ∧ ¬ s.sRxFree)) :
    ¬ eStopGuard s := by
  rintro ⟨hmsl, hphase⟩
  rcases h with h | ⟨hother, hend, hfree⟩
  · simp [hmsl] at h
  · rcases hphase with hphase | hphase | hphase <;> contradiction

theorem not_arloGuard {s : State}
    (h : s.msl = false ∨ (s.phase ≠ .mAddr ∧ (s.phase ≠ .mTx ∨ s.addr = true ∨ s.shTx = false))) : ¬ arloGuard s := by
  rintro ⟨hmsl, hphase⟩
  rcases h with h | ⟨hmaddr, h⟩
  · simp [hmsl] at h
  · obtain ⟨htx, haddr, hshTx⟩ := hphase.resolve_left hmaddr
    simp [htx, haddr, hshTx] at h

/-- While the block holds the clock no unit is sent or received (R174). -/
theorem FlagInv.no_unit_of_held {s : State} (hs : FlagInv s)
    (h : s.sb = true ∨ s.addr = true ∨ (s.tra = true ∧ s.txe = true ∧ s.btf = true) ∨
      (s.tra = true ∧ s.shTx = false) ∨ s.shRx = true ∨ s.phase = .mHalt) : ¬ txByteGuard s ∧ ¬ rxByteGuard s := by
  refine ⟨fun ⟨hphase, haddr, hshTx⟩ => ?_, fun ⟨hphase, haddr, hshRx, hnacked⟩ => ?_⟩
  · rcases h with hsb | h | ⟨htra, -, hbtf⟩ | ⟨-, h⟩ | hshRx | hhalt
    · simp [hs.sb.mp hsb] at hphase
    · simp [haddr] at h
    · simp [(hs.btf htra hbtf).2] at hshTx
    · simp [hshTx] at h
    · simp [hs.shExcl hshTx] at hshRx
    · simp [hhalt] at hphase
  · have hno : s.tra = true → False := fun htra => by
      have hmay := hs.traPhase htra
      rcases hphase with hphase | hphase <;> simp [hphase, Phase.mayTransmit] at hmay
    rcases h with hsb | h | ⟨htra, -⟩ | ⟨htra, -⟩ | h | hhalt
    · simp [hs.sb.mp hsb] at hphase
    · simp [haddr] at h
    · exact hno htra
    · exact hno htra
    · simp [hshRx] at h
    · simp [hhalt] at hphase

/-! ### What an event keeps -/

/-- The frame of the wire engine (R186), by groups of fields. -/
theorem wireEffect_untouched (e : WireEvent) (s : State) :
    SameSession s (wireEffect e s) ∧ SameCommand s (wireEffect e s) ∧ SameEnables s (wireEffect e s) ∧
      (wireEffect e s).mem = s.mem ∧ (wireEffect e s).ack = s.ack ∧ (wireEffect e s).pe = s.pe ∧
      SameSeq s (wireEffect e s) ∧ SameCallback s (wireEffect e s) ∧ SameConfig s (wireEffect e s) ∧
      (wireEffect e s).clken = s.clken := by
  rw [wireEffect_frame (e := e) (s := s) rfl]
  exact ⟨⟨rfl, rfl, rfl, rfl, rfl⟩, ⟨rfl, rfl, rfl, rfl, rfl⟩, ⟨rfl, rfl, rfl⟩, rfl, rfl, rfl,
    ⟨rfl, rfl, rfl, rfl, rfl, rfl, rfl, rfl, rfl⟩, ⟨rfl, rfl, rfl⟩, ⟨rfl, rfl, rfl⟩, rfl⟩

/-- No wire event clears `ADDR`, `STOPF` or `RXNE` (R186). -/
theorem wireEffect_flags (e : WireEvent) (s : State) : (s.addr = true → (wireEffect e s).addr = true) ∧
    (s.stopf = true → (wireEffect e s).stopf = true) ∧ (s.rxne = true → (wireEffect e s).rxne = true) := by
  cases e with
  | start | arlo => exact ⟨id, id, id⟩
  | err f => cases f <;> exact ⟨id, id, id⟩
  | eStop =>
    refine ⟨id, fun h => ?_, id⟩
    simp [wireEffect, wireEStop, h]
  | stop =>
    simp only [wireEffect, wireStop, stopNow, doStop_eq]
    split <;> exact ⟨id, id, id⟩
  | addrResult a =>
    cases a with
    | nack => exact ⟨id, id, id⟩
    | ack =>
      simp only [wireEffect, wireAddrResult]
      split <;> exact ⟨fun _ => rfl, id, id⟩
  | txByte a =>
    cases a with
    | nack => exact ⟨id, id, id⟩
    | ack =>
      simp only [wireEffect, wireTxByte, stopNow, doStop_eq]
      split_ifs <;> exact ⟨id, id, id⟩
  | rxByte b =>
    have hrxne : (received b s).rxne = true := by
      cases h : s.rxne <;> cases ha : s.answer <;> cases hm : s.msl <;>
        simp [received, rxAnswer, rxPlace, State.log, h, ha, hm]
    rw [wireEffect, wireRxByte_eq, stopNow, doStop_eq, restartNow, doStart]
    split_ifs <;> simp [hrxne]
  | eAddress a7 rw =>
    simp only [wireEffect, wireEAddress]
    split
    · exact ⟨fun _ => rfl, id, id⟩
    · exact ⟨id, id, id⟩

/-! ### What an event records -/

/-- `l` is made of records of the wire engine, and an unrequested stop or start is not among them. -/
structure WireRecords (s : State) (l : List Rec) : Prop where
  wire : ∀ r ∈ l, r.isWire = true
  stop : Rec.wire .stop ∈ l → s.stop = true
  start : Rec.wire .start ∈ l ∨ Rec.wire .rstart ∈ l → s.start = true

theorem received_trace (b : Byte) (s : State) :
    (received b s).trace = s.trace ++ [.wire (.rxByte b s.answer)] := by
  cases h : s.rxne <;> cases ha : s.answer <;> cases hm : s.msl <;>
    simp [received, rxAnswer, rxPlace, State.log, h, ha, hm]

@[simp] theorem stopNow_trace (s : State) : (stopNow s).trace = s.trace ++ [.wire .stop] := by
  rw [stopNow, doStop_eq, State.log_trace]

@[simp] theorem restartNow_trace (s : State) : (restartNow s).trace = s.trace ++ [.wire .rstart] := rfl

/-- The records of an event that leaves `r`, and of the request that it serves. -/
theorem WireRecords.single {s : State} {r : WireRec} (hstop : r ≠ .stop) (hstart : r ≠ .start ∧ r ≠ .rstart) :
    WireRecords s [.wire r] := by
  refine ⟨by simp [Rec.isWire], fun h => ?_, fun h => ?_⟩
  · simp [Ne.symm hstop] at h
  · simp [Ne.symm hstart.1, Ne.symm hstart.2] at h

theorem WireRecords.withStop {s : State} {r : WireRec} (hstart : r ≠ .start ∧ r ≠ .rstart) (h : s.stop = true) :
    WireRecords s [.wire r, .wire .stop] := by
  refine ⟨by simp [Rec.isWire], fun _ => h, fun h => ?_⟩
  simp [Ne.symm hstart.1, Ne.symm hstart.2] at h

theorem WireRecords.withRestart {s : State} {r : WireRec} (hstop : r ≠ .stop) (h : s.start = true) :
    WireRecords s [.wire r, .wire .rstart] := by
  refine ⟨by simp [Rec.isWire], fun h => ?_, fun _ => h⟩
  simp [Ne.symm hstop] at h

theorem wireEffect_trace {e : WireEvent} {s : State} (hguard : wireGuard e s = true) :
    ∃ l : List Rec, (wireEffect e s).trace = s.trace ++ l ∧ WireRecords s l := by
  cases e with
  | start =>
    have hstart : startGuard s := of_decide_eq_true hguard
    exact ⟨_, rfl, by simp [Rec.isWire], by split <;> simp, fun _ => hstart.1⟩
  | stop =>
    have hstop : stopGuard s := of_decide_eq_true hguard
    simp only [wireEffect, wireStop, stopNow, doStop_eq]
    split
    · exact ⟨_, rfl, by simp [Rec.isWire], fun _ => hstop.1, by simp⟩
    · exact ⟨[], by simp, by simp, by simp, by simp⟩
  | addrResult a =>
    refine ⟨[.wire (.addrByte s.shift a)], ?_, .single (by simp) (by simp)⟩
    cases a with
    | nack => rfl
    | ack =>
      simp only [wireEffect, wireAddrResult]
      split <;> rfl
  | txByte a =>
    cases a with
    | nack => exact ⟨_, rfl, .single (by simp) (by simp)⟩
    | ack =>
      simp only [wireEffect, wireTxByte]
      split_ifs with hstop hstart
      · exact ⟨_, by simp, .withStop (r := .txByte s.shift .ack) (by simp) hstop.2⟩
      · exact ⟨_, by simp, .withRestart (r := .txByte s.shift .ack) (by simp) hstart.2⟩
      · exact ⟨_, rfl, .single (by simp) (by simp)⟩
      · exact ⟨_, rfl, .single (by simp) (by simp)⟩
  | rxByte b =>
    rw [wireEffect, wireRxByte_eq]
    split_ifs with hstop hstart
    · exact ⟨_, by simp [received_trace], .withStop (r := .rxByte b s.answer) (by simp) hstop.2⟩
    · exact ⟨_, by simp [received_trace], .withRestart (r := .rxByte b s.answer) (by simp) hstart.2⟩
    · exact ⟨_, received_trace b s, .single (by simp) (by simp)⟩
  | eAddress a7 rw =>
    refine ⟨[.wire (.eAddr a7 rw (s.addrMatch a7))], ?_, .single (by simp) (by simp)⟩
    simp only [wireEffect, wireEAddress]
    split <;> rfl
  | eStop => exact ⟨_, rfl, .single (by simp) (by simp)⟩
  | arlo => exact ⟨_, rfl, .single (by simp) (by simp)⟩
  | err f => exact ⟨_, by simp [wireEffect, wireErr], .single (r := .err f) (by simp) (by simp)⟩

/-! ### What an event never reads -/

/-- `s` with the session, the command port, `IEN` and the memory of `u`. -/
def State.withUnread (s u : State) : State :=
  { s with
    role := u.role, cursor := u.cursor, remain := u.remain, taddr := u.taddr, rs := u.rs, opBuf := u.opBuf,
    opLen := u.opLen, cmd := u.cmd, resVal := u.resVal, resSt := u.resSt, itbufen := u.itbufen,
    itevten := u.itevten, iterren := u.iterren, mem := u.mem }

/-- `f` reads none of what `withUnread` replaces. -/
def ReadsNone (u : State) (f : State → State) : Prop := ∀ s : State, f (s.withUnread u) = (f s).withUnread u

theorem ReadsNone.comp {u : State} {f g : State → State} (hg : ReadsNone u g) (hf : ReadsNone u f) :
    ReadsNone u fun s => g (f s) := fun s => (congrArg g (hf s)).trans (hg (f s))

theorem ReadsNone.ite {u : State} {p : State → Prop} {_ : DecidablePred p} {f g : State → State}
    (hp : ∀ s : State, p (s.withUnread u) ↔ p s) (hf : ReadsNone u f) (hg : ReadsNone u g) :
    ReadsNone u fun s => if p s then f s else g s := fun s => by
  simp only [hp]
  split
  · exact hf s
  · exact hg s

theorem readsNone_stopNow (u : State) : ReadsNone u stopNow := fun s => by
  rw [stopNow, stopNow, doStop_eq, doStop_eq]
  rfl

theorem readsNone_restartNow (u : State) : ReadsNone u restartNow := fun _ => rfl

theorem readsNone_rxPlace (u : State) (b : Byte) : ReadsNone u (rxPlace b) :=
  .ite (fun _ => Iff.rfl) (fun _ => rfl) fun _ => rfl

theorem readsNone_rxAnswer (u : State) (a : Ack) : ReadsNone u (rxAnswer a) := by
  cases a with
  | ack => exact fun _ => rfl
  | nack => exact .ite (fun _ => Iff.rfl) (fun _ => rfl) fun _ => rfl

theorem readsNone_received (u : State) (b : Byte) : ReadsNone u (received b) := fun s =>
  (readsNone_rxAnswer u s.answer).comp (readsNone_rxPlace u b) (s.log (.wire (.rxByte b s.answer)))

/-- The wire engine reads none of these registers, nor memory. -/
theorem readsNone_wireEffect (u : State) (e : WireEvent) : ReadsNone u (wireEffect e) := by
  cases e with
  | start | eStop | arlo => exact fun _ => rfl
  | err f => cases f <;> exact fun _ => rfl
  | stop => exact .ite (fun _ => Iff.rfl) (readsNone_stopNow u) fun _ => rfl
  | addrResult a =>
    cases a with
    | nack => exact fun _ => rfl
    | ack => exact .ite (fun _ => Iff.rfl) (fun _ => rfl) fun _ => rfl
  | txByte a =>
    cases a with
    | nack => exact fun _ => rfl
    | ack =>
      have hstop : ReadsNone u fun s => stopNow (s.log (.wire (.txByte s.shift .ack))) := fun s =>
        readsNone_stopNow u (s.log (.wire (.txByte s.shift .ack)))
      exact .ite (fun _ => Iff.rfl) hstop (.ite (fun _ => Iff.rfl) (fun _ => rfl)
        (.ite (fun _ => Iff.rfl) (fun _ => rfl) fun _ => rfl))
  | rxByte b =>
    have heq : wireEffect (.rxByte b) = fun s => if s.msl = true ∧ s.stop = true then stopNow (received b s)
        else if s.msl = true ∧ s.start = true then restartNow (received b s) else received b s :=
      funext (wireRxByte_eq b)
    rw [heq]
    exact .ite (fun _ => Iff.rfl) ((readsNone_stopNow u).comp (readsNone_received u b))
      (.ite (fun _ => Iff.rfl) ((readsNone_restartNow u).comp (readsNone_received u b)) (readsNone_received u b))
  | eAddress a7 rw => exact .ite (fun _ => Iff.rfl) (fun _ => rfl) fun _ => rfl

theorem readsNone_wireMove (u : State) (e : WireEvent) : ReadsNone u (wireMove e) :=
  have hen (s : State) : wireEnabled e (s.withUnread u) ↔ wireEnabled e s := by cases e <;> exact Iff.rfl
  .ite hen (readsNone_wireEffect u e) fun _ => rfl

/-- Settles O33: the negated guards, the clock held, and of an event that occurs its frame, its records and what it
never reads. -/
theorem wireEngineLeavesTheRestAlone : Obligations.WireEngineLeavesTheRestAlone := by
  refine ⟨fun s => ⟨fun hoff e => ?_, fun h => ?_, fun h => ?_, fun h a => ?_, fun h a => ?_, fun h b => ?_,
    fun h a7 rw => ?_, fun h => ?_, fun h => ?_⟩, fun s hs hheld => ⟨fun a => ?_, fun b => ?_⟩, fun e s t h => ?_⟩
  · refine runs_wire_disabled fun ⟨hclk, hpe, _⟩ => ?_
    simp [hclk, hpe] at hoff
  · refine runs_wire_of_not_guard (decide_eq_false (not_startGuard (h.imp_right (.imp_right ?_))))
    exact And.imp_right (.imp_right not_quiescent)
  · exact runs_wire_of_not_guard (decide_eq_false (not_stopGuard (h.imp_right (.imp_right not_quiescent))))
  · exact runs_wire_of_not_guard (decide_eq_false h)
  · exact runs_wire_of_not_guard (decide_eq_false (not_txByteGuard h))
  · exact runs_wire_of_not_guard (decide_eq_false (not_rxByteGuard h))
  · refine runs_wire_of_not_guard (decide_eq_false (not_eAddressGuard (h.imp_right ?_)))
    exact .imp_right (.imp_right (.imp_right not_sRxFree))
  · refine runs_wire_of_not_guard (decide_eq_false (not_eStopGuard (h.imp_right ?_)))
    exact .imp_right (.imp_right not_sRxFree)
  · exact runs_wire_of_not_guard (decide_eq_false (not_arloGuard h))
  · exact runs_wire_of_not_guard (decide_eq_false (hs.no_unit_of_held hheld).1)
  · exact runs_wire_of_not_guard (decide_eq_false (hs.no_unit_of_held hheld).2)
  · have hunread (u : State) : Runs (.wire e) (s.withUnread u) (t.withUnread u) := by
      rw [runs_wire_iff, readsNone_wireMove u e s, (runs_wire_iff e s t).mp h]
    cases moved_of_runs h with
    | blocked =>
      exact ⟨⟨rfl, rfl, rfl, rfl, rfl⟩, ⟨rfl, rfl, rfl, rfl, rfl⟩, ⟨rfl, rfl, rfl⟩, rfl, rfl, rfl,
        ⟨rfl, rfl, rfl, rfl, rfl, rfl, rfl, rfl, rfl⟩, ⟨rfl, rfl, rfl⟩, ⟨rfl, rfl, rfl⟩, rfl, id, id, id, fun _ => id,
        id, ⟨[], by simp⟩, hunread⟩
    | wire _ hen =>
      obtain ⟨hsession, hcommand, henables, hmem, hack, hpe, hseq, hcallback, hconfig, hclken⟩ :=
        wireEffect_untouched e s
      obtain ⟨haddr, hstopf, hrxne⟩ := wireEffect_flags e s
      obtain ⟨l, htrace, hwire, hstop, hstart⟩ := wireEffect_trace hen.2.2
      have hget (f : ErrFlag) (hf : f.get s = true) : f.get (wireEffect e s) = true :=
        (wireEffect_get e f s).elim (fun hkeep => hkeep.trans hf) And.right
      exact ⟨hsession, hcommand, henables, hmem, hack, hpe, hseq, hcallback, hconfig, hclken, haddr, hstopf, hrxne,
        hget, fun hf => wFailed_wireEffect hf e, ⟨l, htrace, hwire, hstop, hstart⟩, hunread⟩

end Sys2Proof.Machine

/-! The steps of a blocking operation at each label (42_blocking_engine.md sections 2 and 3). -/

namespace Sys2Proof.Machine

/-- SEQ's step in a blocking operation. -/
theorem runs_seq_blk {s t : State} (hclk : s.clken = true) (hcbw : s.cbw = false) (hmode : s.seqMode = .blk)
    (h : blockingStep s = t) : Runs .seq s t := by
  rw [runs_iff, perform, seqMove_running hclk hcbw, hmode]
  exact congrArg _ h

/-- Settles O34: `blockingStep` at each label of a send. -/
theorem sendStepsFollowTheirLabels : Obligations.SendStepsFollowTheirLabels := by
  intro s hclk hcbw hmode
  have hrun {t : State} (h : blockingStep s = t) := runs_seq_blk hclk hcbw hmode h
  refine ⟨fun hpos => hrun ?_, fun hpos hsb => hrun ?_, fun hpos => hrun ?_, fun hpos haddr hok => hrun ?_,
    fun hpos hready => hrun ?_, fun hpos hlen => hrun ?_, fun hpos hlen htxe hok => hrun ?_, fun hpos => hrun ?_,
    fun hpos htxe hbtf hok => hrun ?_, fun hpos hrs => hrun ?_, fun hpos hrs => hrun ?_⟩
  · simp only [blockingStep, hpos, startReqOp, State.log]
  · simp only [blockingStep, hpos, hsb, if_true]
  · simp only [blockingStep, hpos, addrWOp, State.log]
  · simp only [blockingStep, hpos, if_pos (show s.addrAcked from ⟨haddr, hok⟩)]
  · simp [blockingStep, hpos, clearAddrOp_eq, hready]
  · simp only [blockingStep, hpos, if_pos hlen]
  · simp only [blockingStep, hpos, if_neg hlen, if_pos (show s.unitWanted from ⟨htxe, hok⟩)]
  · simp only [blockingStep, hpos, sendUnit, memRead, State.log, advance, decrement]
  · simp only [blockingStep, hpos, if_pos (show s.unitsSent from ⟨htxe, hbtf, hok⟩)]
  · simp [blockingStep, hpos, finishBlocking, stopUnless_eq, hrs, State.setResult]
  · simp [blockingStep, hpos, finishBlocking, stopUnless_eq, hrs, State.setResult]

/-- What a state reads after one unit is stored at `a` (20_memory.md section 1). -/
theorem stored_unit {s t : State} {a : Word} {v : Byte} (hwf : Memory.wf s.mem = true)
    (hmem : t.mem = (s.memPut a v).mem) : t.memAt a = v ∧ ∀ b : Word, b ≠ a → t.memAt b = s.memAt b := by
  have hread (b : Word) : t.memAt b = (s.memPut a v).memAt b := by rw [State.memAt, hmem, State.memAt]
  refine ⟨?_, fun b hb => ?_⟩
  · rw [hread, State.memAt_memPut s a a v hwf, if_pos rfl]
  · rw [hread, State.memAt_memPut s a b v hwf, if_neg hb.symm]

/-- Settles O35: `blockingStep` at each label of a receive; V9 and V13 store one unit. -/
theorem receiveStepsFollowTheirLabels : Obligations.ReceiveStepsFollowTheirLabels := by
  intro s hclk hcbw hmode
  have hrun {t : State} (h : blockingStep s = t) := runs_seq_blk hclk hcbw hmode h
  refine ⟨fun hpos => hrun ?_, fun hpos => hrun ?_, fun hpos hsb => hrun ?_, fun hpos => hrun ?_,
    fun hpos haddr hok hlen => hrun ?_, fun hpos haddr hok hlen => hrun ?_, fun hpos => hrun ?_,
    fun hpos hready => hrun ?_, fun hpos hrs => hrun ?_, fun hpos hrs => hrun ?_, fun hpos hrxne hok => hrun ?_,
    fun hpos hlen => hrun ?_, fun hpos hlen hrxne hok => hrun ?_, fun hpos hlen => hrun ?_, fun hpos hlen => hrun ?_,
    fun hpos hwf => ?_⟩
  · simp only [blockingStep, hpos, ackEnOp, State.log]
  · simp only [blockingStep, hpos, startReqOp, State.log]
  · simp only [blockingStep, hpos, hsb, if_true]
  · simp only [blockingStep, hpos, addrROp, State.log]
  · simp only [blockingStep, hpos, if_pos (show s.addrAcked from ⟨haddr, hok⟩), if_pos hlen]
  · simp only [blockingStep, hpos, if_pos (show s.addrAcked from ⟨haddr, hok⟩), if_neg hlen]
  · simp only [blockingStep, hpos, ackDisOp, State.log]
  · rcases hpos with hpos | hpos <;> simp [blockingStep, hpos, clearAddrOp_eq, hready]
  · rcases hpos with hpos | hpos <;> simp [blockingStep, hpos, stopUnless_eq, hrs]
  · rcases hpos with hpos | hpos <;> simp [blockingStep, hpos, stopUnless_eq, hrs]
  · simp only [blockingStep, hpos, if_pos (show s.unitArrived from ⟨hrxne, hok⟩)]
  · simp only [blockingStep, hpos, if_pos hlen, finishBlocking, State.setResult]
  · simp only [blockingStep, hpos, if_neg hlen, if_pos (show s.unitArrived from ⟨hrxne, hok⟩)]
  · simp only [blockingStep, hpos, if_pos hlen, ackDisOp, State.log]
  · simp only [blockingStep, hpos, if_neg hlen]
  · obtain ⟨hstored, hothers⟩ := stored_unit hwf (blockingStep_mem_of_store hpos)
    refine ⟨_, hrun rfl, hstored, hothers, ?_⟩
    rcases hpos with hpos | hpos <;>
      simp [blockingStep, hpos, recvUnit, memWrite_drRead_eq, finishBlocking, State.setResult, advance, decrement,
        hmode]

end Sys2Proof.Machine

/-! The checks of the two dispatchers (44_dispatcher.md sections 2 and 3) and the callback
(60_exceptions.md section 4). -/

namespace Sys2Proof.Machine

theorem runs_seq_er {s : State} (hclk : s.clken = true) (hcbw : s.cbw = false) (hmode : s.seqMode = .er) :
    Runs .seq s (dispatcherStep s) := by
  rw [runs_iff, perform, seqMove_running hclk hcbw, hmode]

theorem dispatcherStep_of_exit {s : State} (hpos : s.dpc = .exit) :
    dispatcherStep s = { s with seqMode := .idle, resVal := 0, resSt := 0 } := by
  simp only [dispatcherStep, hpos, exitDispatcher, State.setResult]

/-- Settles O37: `dispatcherStep` at the positions of E0 to E3 and at the exit. -/
theorem eventChecksForStartAddressEndAndStop : Obligations.EventChecksForStartAddressEndAndStop := by
  intro s hclk hcbw hmode
  have hrun {t : State} (h : dispatcherStep s = t) : Runs .seq s t := h ▸ runs_seq_ev hclk hcbw hmode
  refine ⟨fun hpos => hrun ?_, fun hpos hrole => hrun ?_, fun hpos hrole => hrun ?_, fun hpos hrole => hrun ?_,
    fun hpos => hrun ?_, fun hpos => hrun ?_, fun hpos => hrun ?_, fun hpos hrs => hrun ?_, fun hpos hrs => hrun ?_,
    fun hpos => hrun ?_, fun hpos => hrun ?_, fun hpos => hrun (dispatcherStep_of_exit hpos)⟩
  · simp only [dispatcherStep, hpos]
  · simp only [dispatcherStep, hpos, addressPhase, hrole, addrWOp, State.log]
  · simp only [dispatcherStep, hpos, addressPhase, hrole, addrROp, State.log]
  · simp only [dispatcherStep, hpos, addressPhase, hrole]
  · simp only [dispatcherStep, hpos]
  · simp only [dispatcherStep, hpos, clearAddrOp_eq]
  · simp only [dispatcherStep, hpos]
  · simp [dispatcherStep, hpos, stopUnless_eq, hrs]
  · simp [dispatcherStep, hpos, stopUnless_eq, hrs]
  · simp only [dispatcherStep, hpos]
  · simp only [dispatcherStep, hpos, clearStopfOp, State.log]

/-- The last unit of a session is the one whose decremented count is 0 (44_dispatcher.md R253). -/
theorem decrement_eq_zero_iff (len : Word) : decrement len = 0 ↔ len = 1 := by
  unfold decrement
  bv_omega

/-- Settles O38: `dispatcherStep` at the positions of E4 and E5; E4.2 stores one unit. -/
theorem eventChecksForReceivedAndNextUnit : Obligations.EventChecksForReceivedAndNextUnit := by
  intro s hclk hcbw hmode
  have hrun {t : State} (h : dispatcherStep s = t) : Runs .seq s t := h ▸ runs_seq_ev hclk hcbw hmode
  refine ⟨fun hpos hrxne hmsl hrole hremain => hrun ?_, fun hpos hrxne hmsl htra => hrun ?_, fun hpos hno => hrun ?_,
    fun hpos hremain => hrun ?_, fun hpos hremain => hrun ?_, fun hpos hwf => ?_, fun hpos hrs => hrun ?_,
    fun hpos hrs => hrun ?_, fun hpos htxe hmsl hrole hremain => hrun ?_, fun hpos htxe hmsl htra => hrun ?_,
    fun hpos hno => hrun ?_, fun hpos => hrun ?_⟩
  · simp only [dispatcherStep, hpos, if_pos (show masterRxGuard s from ⟨hrxne, hmsl, hrole, hremain⟩)]
  · have hmaster : ¬ masterRxGuard s := by simp [hmsl]
    simp only [dispatcherStep, hpos, if_neg hmaster, if_pos (show slaveRxGuard s from ⟨hrxne, hmsl, htra⟩)]
  · have hmaster : ¬ masterRxGuard s := by rcases hno with h | ⟨-, h | h⟩ | ⟨h, -⟩ <;> simp [h]
    have hslave : ¬ slaveRxGuard s := by rcases hno with h | ⟨h, -⟩ | ⟨-, h⟩ <;> simp [h]
    simp only [dispatcherStep, hpos, if_neg hmaster, if_neg hslave]
  · simp only [dispatcherStep, hpos, if_pos hremain, ackDisOp, State.log]
  · simp only [dispatcherStep, hpos, if_neg hremain]
  · obtain ⟨hstored, hothers⟩ := stored_unit hwf (dispatcherStep_mem_of_store hpos)
    refine ⟨_, hrun rfl, hstored, hothers, ?_⟩
    simp only [dispatcherStep, hpos, storeUnit, memWrite_drRead_eq, decrement_eq_zero_iff]
    rfl
  · simp [dispatcherStep, hpos, stopUnless_eq, hrs]
  · simp [dispatcherStep, hpos, stopUnless_eq, hrs]
  · simp only [dispatcherStep, hpos, if_pos (show masterTxGuard s from ⟨htxe, hmsl, hrole, hremain⟩)]
  · have hmaster : ¬ masterTxGuard s := by simp [hmsl]
    simp only [dispatcherStep, hpos, if_neg hmaster, if_pos (show slaveTxGuard s from ⟨htxe, hmsl, htra⟩)]
  · have hmaster : ¬ masterTxGuard s := by rcases hno with h | ⟨-, h | h⟩ | ⟨h, -⟩ <;> simp [h]
    have hslave : ¬ slaveTxGuard s := by rcases hno with h | ⟨h, -⟩ | ⟨-, h⟩ <;> simp [h]
    simp only [dispatcherStep, hpos, if_neg hmaster, if_neg hslave]
  · simp only [dispatcherStep, hpos, loadUnit, memRead, State.log, advance, decrement]

/-- The callback as an update (60_exceptions.md R297): with `CB_EN` SEQ hands over, without it goes on. -/
theorem callback_of_enabled {s : State} (hen : s.cbEn = true) (e : Event) (next : DStep) : callback e next s = { s with
    dpc := next, cbw := true, cbValid := true, cbCode := e.code, trace := s.trace ++ [.cb e] } := by
  simp [callback_eq, hen]

theorem callback_of_disabled {s : State} (hen : s.cbEn = false) (e : Event) (next : DStep) :
    callback e next s = { s with dpc := next, trace := s.trace ++ [.cb e] } := by
  simp [callback_eq, hen]

/-- Settles O40: `dispatcherStep` at the three positions of each error check and at the exit. -/
theorem errorChecksReportEachFlagOnce : Obligations.ErrorChecksReportEachFlagOnce := by
  intro s hclk hcbw hmode
  have hrun {t : State} (h : dispatcherStep s = t) : Runs .seq s t := h ▸ runs_seq_er hclk hcbw hmode
  have hclear {f : ErrFlag} (hpos : s.dpc = .err f .clear) :
      dispatcherStep s = { (f.put false s).log (.clr f) with dpc := .err f .call } := by
    simp only [dispatcherStep, hpos]
  have hcall {f : ErrFlag} (hpos : s.dpc = .err f .call) : dispatcherStep s = callback f.event f.nextCheck s := by
    simp only [dispatcherStep, hpos]
  refine ⟨fun f hpos => hrun ?_, fun hpos => hrun (hclear hpos), fun hpos => hrun (hclear hpos),
    fun hpos => hrun (hclear hpos), fun hpos => hrun (hclear hpos), fun hpos => hrun (hclear hpos),
    fun f hpos => ⟨fun hen => hrun ?_, fun hen => hrun ?_⟩, fun hpos => hrun (dispatcherStep_of_exit hpos),
    rfl, rfl, rfl, rfl, rfl, rfl, rfl, rfl, rfl, rfl⟩
  · simp only [dispatcherStep, hpos]
  · rw [hcall hpos, callback_of_enabled hen]
  · rw [hcall hpos, callback_of_disabled hen]

/-- Settles O41: the five positions are `callback` of their event; while SEQ waits `cb_done` alone acts. -/
theorem callbackHandsOverAndReturns : Obligations.CallbackHandsOverAndReturns := by
  refine ⟨fun s d next e code hmem hclk hcbw hmode hpos => ?_, fun s hclk hcbw => ⟨?_, ?_⟩, fun s hcbw => ?_⟩
  · have hstep : dispatcherStep s = callback e next s ∧ code = e.code := by
      simp only [List.mem_cons, Prod.mk.injEq, List.not_mem_nil, or_false] at hmem
      rcases hmem with h | h | h | h | h <;> obtain ⟨rfl, rfl, rfl, rfl⟩ := h <;>
        exact ⟨by simp only [dispatcherStep, hpos], rfl⟩
    obtain ⟨hstep, rfl⟩ := hstep
    have hrun : Runs .seq s (callback e next s) := hstep ▸ runs_seq_ev hclk hcbw hmode
    exact ⟨fun hen => callback_of_enabled hen e next ▸ hrun, fun hen => callback_of_disabled hen e next ▸ hrun⟩
  · rw [runs_iff, perform, seqMove_waiting (.inr hcbw)]
  · rw [runs_iff, perform, hostMove, if_pos ⟨hcbw, hclk⟩, callbackDone]
  · rw [runs_iff, perform, hostMove, if_neg (by simp [hcbw])]

end Sys2Proof.Machine

/-! The register port (20_memory.md sections 2 and 3), the gated clock, and reset. -/

namespace Sys2Proof.Machine

/-! ### The register words -/

theorem getLsbD_bitAt {k : Nat} (hk : k < 32) (b : Bool) (n : Nat) : (bitAt k b).getLsbD n = (decide (n = k) && b) := by
  cases b
  · simp [bitAt]
  · simp only [bitAt, cond_true, Bool.and_true, BitVec.getLsbD_twoPow]
    rcases eq_or_ne n k with rfl | hne
    · simp [hk]
    · simp [hne, hne.symm]

theorem getLsbD_ctrlWord (s : State) (n : Nat) : s.ctrlWord.getLsbD n =
    match n with | 0 => s.pe | 8 => s.start | 9 => s.stop | 10 => s.ack | _ => false := by
  simp only [State.ctrlWord, BitVec.getLsbD_or, getLsbD_bitAt, Nat.reduceLT]
  split <;> simp_all

theorem getLsbD_oarWord (s : State) (n : Nat) :
    s.oarWord.getLsbD n = (decide (0 < n) && s.own.getLsbD (n - 1)) := by
  refine BitVec.getLsbD_append.trans ?_
  simp only [BitVec.getLsbD_append]
  grind

theorem getLsbD_resultWord (s : State) (n : Nat) : s.resultWord.getLsbD n =
    if n < 8 then s.resVal.getLsbD n else s.resSt.getLsbD (n - 8) := by
  refine BitVec.getLsbD_append.trans ?_
  simp only [BitVec.getLsbD_append]
  grind

/-- Settles O45: each word is an `or` of single bits (`getLsbD_bitAt`), or a concatenation. -/
theorem registerWordsShowTheFields : Obligations.RegisterWordsShowTheFields := by
  refine fun s => ⟨fun n => ?_, fun n => ?_, getLsbD_ctrlWord s, fun n => ?_, fun n => ?_, ?_, ?_, ?_, ?_, ?_, ?_⟩
  · simp only [State.sr1Word, BitVec.getLsbD_or, getLsbD_bitAt, Nat.reduceLT]
    split <;> simp_all
  · simp only [State.sr2Word, BitVec.getLsbD_or, getLsbD_bitAt, Nat.reduceLT]
    split <;> simp_all
  · simp only [State.ienWord, BitVec.getLsbD_or, getLsbD_bitAt, Nat.reduceLT]
    split <;> simp_all
  · simp only [State.cfgWord, BitVec.getLsbD_or, getLsbD_bitAt, Nat.reduceLT]
    split <;> simp_all
  · refine BitVec.eq_of_getLsbD_eq fun n hn => ?_
    simp [getLsbD_oarWord, hn]
  · rw [getLsbD_oarWord]
    rfl
  · refine BitVec.eq_of_getLsbD_eq fun n hn => ?_
    simp [getLsbD_oarWord]
  · refine BitVec.eq_of_getLsbD_eq fun n hn => ?_
    simp [getLsbD_resultWord, hn]
  · refine BitVec.eq_of_getLsbD_eq fun n hn => ?_
    simp [getLsbD_resultWord, hn]
  · refine BitVec.eq_of_getLsbD_eq fun n hn => ?_
    have hfar : ¬ 10 + n < 8 := by omega
    simp [getLsbD_resultWord, hfar, BitVec.getLsbD_of_ge s.resSt (10 + n - 8) (by omega)]

/-! ### Reads and writes -/

/-- A read of a register without side effect (20_memory.md R74, R82). -/
theorem runs_read_plain {s : State} (hready : s.hostReady) {width : PortWidth} {off : Offset}
    (hplain : portReg width off ≠ .dr ∧ portReg width off ≠ .sr1 ∧ portReg width off ≠ .sr2) :
    Runs (.host (.portRead width off)) s { s with rdata := regValue (portReg width off) s } := by
  have hrun := runs_portRead hready width off
  have heffect : regReadEffect (portReg width off) s = s := by
    obtain ⟨hdr, hsr1, hsr2⟩ := hplain
    generalize portReg width off = r at hdr hsr1 hsr2
    cases r with
    | dr | sr1 | sr2 => contradiction
    | ctrl | ien | oar | cfg | sesRole | sesCursor | sesRemain | sesTarget | opBuf | opLen | cmd | result | clken
    | reserved => rfl
  rwa [regRead, heffect] at hrun

theorem sr1ReadEffect_eq (s : State) : sr1ReadEffect s = { s with stopf := false, addrRd := s.addr || s.addrRd } := by
  cases haddr : s.addr <;> simp [sr1ReadEffect, haddr]

theorem releaseAddr_eq (s : State) :
    s.releaseAddr = { s with addr := false, addrRd := false, txe := s.tra || s.txe } := by
  cases htra : s.tra <;> simp [State.releaseAddr, htra]

theorem sr2ReadEffect_eq (s : State) : sr2ReadEffect s = { s with
    addr := s.addr && !s.addrRd, addrRd := false, txe := (s.addrRd && s.tra) || s.txe } := by
  cases harmed : s.addrRd
  · simp only [sr2ReadEffect, harmed, Bool.false_eq_true, if_false, Bool.not_false, Bool.and_true, Bool.false_and,
      Bool.false_or]
    exact congrArg (fun b : Bool => { s with addrRd := b }) harmed
  · simp [sr2ReadEffect, harmed, releaseAddr_eq]

theorem runs_read_sr1 {s : State} (hready : s.hostReady) : Runs (.host (.portRead .word 0x14)) s
    { s with stopf := false, addrRd := s.addr || s.addrRd, rdata := s.sr1Word } := by
  have hrun := runs_portRead hready .word 0x14
  have hreg : portReg .word 0x14 = .sr1 := rfl
  rwa [hreg, regRead, regReadEffect, sr1ReadEffect_eq] at hrun

theorem runs_read_sr2 {s : State} (hready : s.hostReady) : Runs (.host (.portRead .word 0x18)) s { s with
    addr := s.addr && !s.addrRd, addrRd := false, txe := (s.addrRd && s.tra) || s.txe, rdata := s.sr2Word } := by
  have hrun := runs_portRead hready .word 0x18
  have hreg : portReg .word 0x18 = .sr2 := rfl
  rwa [hreg, regRead, regReadEffect, sr2ReadEffect_eq] at hrun

/-- Settles O46: the two reads' equations, and the write of `SR1`. -/
theorem statusRegisterAccessesHaveSideEffects : Obligations.StatusRegisterAccessesHaveSideEffects := by
  refine fun s hready => ⟨runs_read_sr1 hready, fun hclk w => ?_, fun harmed => ?_, fun harmed => ?_⟩
  · exact runs_portWrite_clocked hready hclk (off := 0x14) (by decide) w
  · simpa [harmed] using runs_read_sr2 hready
  · simpa [harmed] using runs_read_sr2 hready

theorem disablesPe_iff (w : Word) (s : State) : disablesPe w s = true ↔
    w.getLsbD 0 = false ∧ s.pe = true ∧ s.phase = .idle ∧ s.role = .ready := by
  simp only [disablesPe, Bool.and_eq_true, Bool.not_eq_true', decide_eq_true_eq, and_assoc]

theorem runs_write_ctrl {s : State} (hready : s.hostReady) (hclk : s.clken = true) (w : Word) :
    Runs (.host (.portWrite .word 0x00 w)) s (writeCtrl w s) :=
  runs_portWrite_clocked hready hclk (off := 0x00) (by decide) w

/-- Settles O47: `writeCtrl_eq`, and its instance for the word read with bit 0 cleared. -/
theorem controlWriteIsPerformedAsPrimitives : Obligations.ControlWriteIsPerformedAsPrimitives := by
  refine ⟨fun s hready hclk hpe hphase hrole => ?_, fun s w hready hclk => ⟨disablesPe w s, disablesPe_iff w s, ?_⟩⟩
  · have hbit (n : Nat) : (s.ctrlWord &&& 0xFFFFFFFE).getLsbD n =
        (s.ctrlWord.getLsbD n && (0xFFFFFFFE : Word).getLsbD n) :=
      BitVec.getLsbD_and
    have hpeBit : (s.ctrlWord &&& 0xFFFFFFFE).getLsbD 0 = false := by rw [hbit]; simp
    have hstart : (s.ctrlWord &&& 0xFFFFFFFE).getLsbD 8 = s.start := by rw [hbit, getLsbD_ctrlWord]; simp
    have hstop : (s.ctrlWord &&& 0xFFFFFFFE).getLsbD 9 = s.stop := by rw [hbit, getLsbD_ctrlWord]; simp
    have hack : (s.ctrlWord &&& 0xFFFFFFFE).getLsbD 10 = s.ack := by rw [hbit, getLsbD_ctrlWord]; simp
    have hdis : disablesPe (s.ctrlWord &&& 0xFFFFFFFE) s = true :=
      (disablesPe_iff _ s).mpr ⟨hpeBit, hpe, hphase, hrole⟩
    have hrun := runs_write_ctrl hready hclk (s.ctrlWord &&& 0xFFFFFFFE)
    rw [writeCtrl_eq, hpeBit, hstart, hstop, hack, hdis] at hrun
    simpa using hrun
  · exact writeCtrl_eq w s ▸ runs_write_ctrl hready hclk w

/-- An access that is no transaction of the port, or at a reserved offset. -/
theorem portReg_eq_reserved {width : PortWidth} {off : Offset}
    (h : width = .other ∨ off.toNat % 4 ≠ 0 ∨ off = 0x1C ∨ 0x44 ≤ off.toNat) : portReg width off = .reserved := by
  cases width with
  | other => rfl
  | word =>
    have h := h.resolve_left (by simp)
    revert off
    decide

/-- A write that no register takes (20_memory.md R77). -/
theorem runs_write_ignored {s : State} (hready : s.hostReady) {width : PortWidth} {off : Offset} {r : Reg}
    (hreg : portReg width off = r) (hcmd : r ≠ .cmd) (w : Word) (hignores : regWriteEffect r w s = s) :
    Runs (.host (.portWrite width off w)) s s := by
  have hrun := runs_portWrite hready (hreg ▸ hcmd) w
  rwa [hreg, regWrite, hignores, ite_self] at hrun

theorem writeClken_eq (w : Word) (s : State) :
    writeClken w s = { s with clken := w.getLsbD 0 || (s.clken && s.pe) } := by
  unfold writeClken
  split
  next hbit => rw [hbit, Bool.true_or]
  next hbit =>
    rw [Bool.eq_false_of_not_eq_true hbit, Bool.false_or]
    split
    next hoff => rw [show (s.clken && s.pe) = false by rw [hoff, Bool.and_false]]
    next hon => rw [show (s.clken && s.pe) = s.clken by rw [Bool.eq_true_of_not_eq_false hon, Bool.and_true]]

/-- A write of `CLKEN` needs no clock (20_memory.md R77 a, c). -/
theorem runs_write_clken {s : State} (hready : s.hostReady) (w : Word) : Runs (.host (.portWrite .word 0x40 w)) s
    { s with clken := w.getLsbD 0 || (s.clken && s.pe) } := by
  have hrun := runs_portWrite hready (width := .word) (off := 0x40) (by decide) w
  have hreg : portReg .word 0x40 = .clken := rfl
  rwa [hreg, regWrite, if_pos (.inr rfl), regWriteEffect, writeClken_eq] at hrun

/-- Settles O48: reads of registers without side effect, ignored accesses, and the plain writes. -/
theorem plainRegisterAccesses : Obligations.PlainRegisterAccesses := by
  intro s hready
  have hread (off : Offset)
      (hplain : portReg .word off ≠ .dr ∧ portReg .word off ≠ .sr1 ∧ portReg .word off ≠ .sr2) :=
    runs_read_plain hready hplain
  have hwrite (off : Offset) (hcmd : regAt off ≠ .cmd) (hclk : s.clken = true) (w : Word) :=
    runs_portWrite_clocked hready hclk hcmd w
  refine ⟨hread 0x00 (by decide), hread 0x04 (by decide), hread 0x08 (by decide), hread 0x0C (by decide),
    hread 0x20 (by decide), hread 0x24 (by decide), hread 0x28 (by decide), ?_, hread 0x30 (by decide),
    hread 0x34 (by decide), hread 0x3C (by decide), ?_, fun width off hoff => ?_, hread 0x38 (by decide),
    fun off w hoff => ?_, fun hclk w => ⟨?_, ?_, ?_⟩, runs_write_clken hready⟩
  · have hword : s.sesTargetWord = s.taddr.setWidth 32 ||| (if s.rs then 0x100 else 0) := by
      cases hrs : s.rs <;> rw [State.sesTargetWord, hrs] <;> rfl
    exact hword ▸ hread 0x2C (by decide)
  · have hword : s.clkenWord = if s.clken then 1 else 0 := by
      cases hclk : s.clken <;> rw [State.clkenWord, hclk] <;> rfl
    exact hword ▸ hread 0x40 (by decide)
  · have hreg := portReg_eq_reserved hoff
    have hrun := runs_read_plain hready (width := width) (off := off) (by simp [hreg])
    rw [hreg] at hrun
    exact ⟨hrun, fun w => runs_write_ignored hready hreg (by simp) w rfl⟩
  · simp only [List.mem_cons, List.not_mem_nil, or_false] at hoff
    rcases hoff with rfl | rfl | rfl | rfl | rfl | rfl <;> exact runs_write_ignored hready rfl (by decide) w rfl
  · exact hwrite 0x04 (by decide) hclk w
  · exact hwrite 0x30 (by decide) hclk w
  · exact hwrite 0x34 (by decide) hclk w

/-! ### The gated clock -/

theorem portReg_eq_clken {width : PortWidth} {off : Offset} (h : portReg width off = .clken) : off = 0x40 := by
  cases width with
  | other => cases h
  | word => revert off; decide

theorem portReg_eq_dr {width : PortWidth} {off : Offset} (h : portReg width off = .dr) :
    width = .word ∧ off = 0x10 := by
  cases width with
  | other => cases h
  | word => exact ⟨rfl, by revert off; decide⟩

theorem portReg_eq_sr2 {width : PortWidth} {off : Offset} (h : portReg width off = .sr2) :
    width = .word ∧ off = 0x18 := by
  cases width with
  | other => cases h
  | word => exact ⟨rfl, by revert off; decide⟩

/-- With the clock gated every operation but `P_CLK_EN` and `INIT` is illegal (40_primitives.md R144). -/
theorem not_legalIn_of_gated {i : Instr} {s : State} (hclk : s.clken = false) (hclkEn : i ≠ .pClkEn)
    (hinit : isInit i = false) : ¬ legalIn i s := by
  cases i <;> simp_all [legalIn, isInit]

/-- A port write but of `CMD` and `CLKEN` is ignored (20_memory.md R77 a). -/
theorem runs_write_gated {s : State} (hclk : s.clken = false) (width : PortWidth) (off : Offset) (w : Word)
    (hcmd : off ≠ 0x38) (hclken : off ≠ 0x40) : Runs (.host (.portWrite width off w)) s s := by
  by_cases hready : s.hostReady
  · have hrun := runs_portWrite hready (width := width) (off := off) (fun h => hcmd (portReg_eq_cmd h).2) w
    have hgated : ¬ (s.clken = true ∨ portReg width off = .clken) := by
      rintro (h | h)
      · simp [hclk] at h
      · exact hclken (portReg_eq_clken h)
    rwa [regWrite, if_neg hgated] at hrun
  · exact (perform_host_blocked hready width off w).2

/-- Settles O50: what waits, what is illegal, and the reads, with `CLKEN` = 0. -/
theorem gatedClockFreezesTheBlock : Obligations.GatedClockFreezesTheBlock := by
  intro s hclk
  have hillegal {i : Instr} (hclkEn : i ≠ .pClkEn) (hinit : isInit i = false) :=
    exec_illegal (not_legalIn_of_gated hclk hclkEn hinit)
  refine ⟨?_, fun e => runs_wire_disabled fun ⟨h, _⟩ => by simp [hclk] at h, ?_, runs_write_gated hclk,
    fun i => hillegal, fun hmode => ⟨?_, ?_⟩, fun hready => ⟨?_, runs_read_sr1 hready, runs_read_sr2 hready,
    fun width off hplain => ⟨_, runs_read_plain hready ⟨fun h => ?_, fun h => ?_, fun h => ?_⟩⟩⟩⟩
  · rw [runs_iff, perform, seqMove_waiting (.inl hclk)]
  · rw [runs_iff, perform, hostMove, if_neg (by simp [hclk])]
  · rw [runs_iff, perform, pulseMove, if_pos hmode]
    exact hillegal (i := .evdisp) (by simp) rfl
  · rw [runs_iff, perform, pulseMove, if_pos hmode]
    exact hillegal (i := .erdisp) (by simp) rfl
  · exact regRead_dr_eq s ▸ runs_portRead hready .word 0x10
  · obtain ⟨hwidth, hoff⟩ := portReg_eq_dr h
    simp [hwidth, hoff] at hplain
  · obtain ⟨hwidth, hoff⟩ := portReg_eq_sr1 h
    simp [hwidth, hoff] at hplain
  · obtain ⟨hwidth, hoff⟩ := portReg_eq_sr2 h
    simp [hwidth, hoff] at hplain

/-! ### Reset -/

/-- Settles O51: `resetMove` from every state, and the reset values. -/
theorem resetGivesTheResetState : Obligations.ResetGivesTheResetState := by
  refine ⟨fun s => ⟨resetMove s, rfl, rfl⟩, fun r => ?_, ?_⟩
  · cases r <;> decide
  · decide

/-- Settles O52: `flagInv_reset`, `seqInv_resetMove` at the reset state, and the empty memory. -/
theorem invariantsHoldAtReset : Obligations.InvariantsHoldAtReset :=
  ⟨flagInv_reset, seqInv_resetMove State.reset, Memory.wf_nil⟩

end Sys2Proof.Machine

/-! The end of a run (70_reset_and_hazards.md section 5). -/

namespace Sys2Proof.Machine

theorem runs_afterMove (m : Move) (s : State) : Runs m s (s.afterMove m) := by
  obtain ⟨t, h⟩ := perform_isNext m s
  have hrun : Runs m s t := (runs_iff m s t).mpr h
  rwa [afterMove_eq hrun]

/-- A move without effect leaves an end state. -/
theorem EndState.moveTo_eq {p : RunPoint} (hend : EndState p) {m : Move} (h : Runs m p.state p.state) :
    p.moveTo m p.todo = p :=
  moveTo_same (afterMove_eq h) (by simp [hend.issued.2.1]) hend.ready

/-- In an end state no wire event but an address phase of another master or an error event can occur. -/
theorem EndState.not_wireGuard {p : RunPoint} (hend : EndState p) {e : WireEvent}
    (haddress : ∀ (a7 : Addr7) (rw : Bool), e ≠ .eAddress a7 rw) (herr : ∀ f : ErrFlag, e ≠ .err f) :
    wireGuard e p.state = false := by
  obtain ⟨hstart, hstop⟩ := hend.noRequest
  obtain ⟨hshTx, hshRx⟩ := hend.shiftEmpty
  have hrest : p.state.phase = .idle ∨ (p.state.msl = true ∧ p.state.quiescent) :=
    hend.busAtRest.imp_right fun ⟨hmsl, hquiet, _⟩ => ⟨hmsl, hquiet⟩
  have hmAddr : p.state.phase ≠ .mAddr := by
    rcases hrest with h | ⟨-, h | h | ⟨h, -⟩ | ⟨h, -⟩⟩ <;> simp [h]
  cases e with
  | start => exact decide_eq_false (not_startGuard (.inl hstart))
  | stop => exact decide_eq_false (not_stopGuard (.inl hstop))
  | addrResult => exact decide_eq_false hmAddr
  | txByte => exact decide_eq_false (not_txByteGuard (.inr (.inr hshTx)))
  | rxByte =>
    refine decide_eq_false (not_rxByteGuard ?_)
    rcases hrest with h | ⟨-, h | h | ⟨h, -⟩ | ⟨-, haddr | hnacked | h⟩⟩
    · simp [h]
    · simp [h]
    · simp [h]
    · simp [h]
    · exact .inr (.inl haddr)
    · exact .inr (.inr (.inr hnacked))
    · simp [hshRx] at h
  | eAddress a7 rw => exact absurd rfl (haddress a7 rw)
  | eStop =>
    refine decide_eq_false (not_eStopGuard ?_)
    rcases hrest with h | ⟨hmsl, -⟩
    · simp [h]
    · exact .inl hmsl
  | arlo => exact decide_eq_false (not_arloGuard (.inr ⟨hmAddr, .inr (.inr hshTx)⟩))
  | err f => exact absurd rfl (herr f)

/-- HOST's turn is a move of HOST that leaves the program or takes its head, or it is no move. -/
theorem hostTurn_cases (h : State → Option HostAct) (p : RunPoint) :
    p.hostTurn h = p ∨ ∃ a : HostAct, p.hostTurn h = p.moveTo (.host a) p.todo ∨
      ∃ rest : List HostAct, p.state.seqMode = .idle ∧ p.todo = a :: rest ∧ p.hostTurn h = p.moveTo (.host a) rest := by
  unfold RunPoint.hostTurn
  split
  · exact .inr ⟨_, .inl rfl⟩
  · split
    · exact .inl rfl
    · next a rest htodo =>
      split
      · next hidle => exact .inr ⟨a, .inr ⟨rest, hidle, htodo, rfl⟩⟩
      · exact .inl rfl

/-- A turn that changes its point is a step of the machine. -/
theorem take_cases {h : State → Option HostAct} {p : RunPoint} {u : Turn} (hne : p.take h u ≠ p) :
    ∃ m : Move, Runs m p.state (p.take h u).state ∧ ((p.take h u).todo = p.todo ∨
      ∃ a : HostAct, m = .host a ∧ p.state.seqMode = .idle ∧ p.todo = a :: (p.take h u).todo) := by
  cases u with
  | host =>
    rcases hostTurn_cases h p with hsame | ⟨a, hmove | ⟨rest, hidle, htodo, hmove⟩⟩
    · exact absurd hsame hne
    · refine ⟨_, by rw [RunPoint.take, hmove]; exact runs_afterMove _ _, .inl ?_⟩
      rw [RunPoint.take, hmove, moveTo_todo]
    · refine ⟨_, by rw [RunPoint.take, hmove]; exact runs_afterMove _ _, .inr ⟨a, rfl, hidle, ?_⟩⟩
      rw [RunPoint.take, hmove, moveTo_todo, htodo]
  | seq => exact ⟨.seq, runs_afterMove .seq p.state, .inl rfl⟩
  | wire e => exact ⟨.wire e, runs_afterMove (.wire e) p.state, .inl rfl⟩
  | pulse l => exact ⟨.pulse l, runs_afterMove (.pulse l) p.state, .inl rfl⟩

theorem Run.endsAt_unique {r : Run} {m n : Nat} (hm : r.endsAt m) (hn : r.endsAt n) : m = n :=
  Nat.le_antisymm (Nat.le_of_not_lt fun hlt => hm.2 n hlt hn.1) (Nat.le_of_not_lt fun hlt => hn.2 m hlt hm.1)

/-- Settles O60: in an end state HOST has issued everything, SEQ is idle and no other wire event can occur; a turn that
changes its point is a step (`take_cases`); and the end is the first end state. -/
theorem endStateIsQuiet : Obligations.EndStateIsQuiet := by
  refine ⟨fun h p hend => ?_, fun h p u => take_cases, fun r m n => Run.endsAt_unique⟩
  obtain ⟨htodo, hidle, hcbw⟩ := hend.issued
  refine ⟨hend.linesLow.1, hend.linesLow.2, ?_, hend.moveTo_eq ?_, fun e haddress herr => hend.moveTo_eq ?_⟩
  · simp [RunPoint.take, RunPoint.hostTurn, hcbw, htodo]
  · rw [runs_iff, perform, seqMove]
    split
    · rfl
    · rw [hidle]
  · exact runs_wire_of_not_guard (hend.not_wireGuard haddress herr)

end Sys2Proof.Machine
